-- ==== Sys2Proof/Word.lean ====
section
/-! DEFINITION. The word types of the block: bytes of a frame, the 16-bit registers and the CRC, and the 32-bit
host words (spec/00_scope.md R8, R10). -/

namespace Sys2Proof

/-- A byte of a frame buffer, of the serial line or of an 8-bit register field (R10: "a byte is 8 bits"). -/
abbrev Byte := BitVec 8

/-- A 16-bit register field, the CRC accumulator or an N16 operand (R21, R38, R111). -/
abbrev Half := BitVec 16

/-- A 32-bit host word: a command, a register as the host sees it, a budget, a time sample (R8, R21). -/
abbrev Word := BitVec 32

end Sys2Proof
end

