-- ==== Sys2Proof/Config.lean ====
section
/-! DEFINITION. The block's fixed parameters (spec/00_scope.md R8, R64), the answer types of the serial transport
(spec/20_memory.md R70 to R73), and the values the spec leaves to the outside world: each is an opaque constant, a draw
under no law (spec/93_implementation_defined.md U1, U2, U3, U20). -/

namespace Sys2Proof

namespace Config

/-- ADU_MAX: the size in bytes of each frame buffer (R8). -/
abbrev aduMax : Nat := 260

/-- PDU_MAX (MAX_PDU_SIZE): the longest PDU (R8, R91). -/
abbrev pduMax : Nat := 253

/-- HDR_LEN: the bytes the receiver reads before it knows the frame's length (R8, R96). -/
abbrev hdrLen : Nat := 3

/-- CRC_LEN: the bytes of the CRC on the wire (R8). -/
abbrev crcLen : Nat := 2

/-- CRC_INIT: the accumulator's initial value (R8, R130). -/
abbrev crcInit : Half := 0xFFFF

/-- CRC_POLY: the reflected polynomial (R8, R130). -/
abbrev crcPoly : Half := 0xA001

/-- FLUSH_CHUNK: the bytes one flush read asks for (R8, R179). -/
abbrev flushChunk : Nat := 260

/-- Offset of TXBUF[0] in the host window (R49). -/
abbrev txBase : Nat := 0x100

/-- Offset of RXBUF[0] in the host window (R50). -/
abbrev rxBase : Nat := 0x300

end Config

/-- The two error answers of a transport call (R70 to R73); they are never merged (R74). -/
inductive LinkError where
  | hangup
  | io
  deriving DecidableEq, Repr, Inhabited

/-- An answer to PollReadable or PollWritable (R70, R71). -/
inductive PollAnswer where
  | ready
  | idle
  | err (e : LinkError)
  deriving DecidableEq, Repr, Inhabited

/-- An answer to Read (R72): the next bytes of the receive stream, in order, or an error. -/
inductive ReadAnswer where
  | ok (bytes : List Byte)
  | err (e : LinkError)
  deriving DecidableEq, Repr, Inhabited

/-- An answer to Write (R73): how many of the offered bytes were taken, or an error. -/
inductive WriteAnswer where
  | ok (taken : Nat)
  | err (e : LinkError)
  deriving DecidableEq, Repr, Inhabited

namespace Config

/-- What the byte at a buffer's window offset holds between a reset and its first write (R54, U1: "each byte a draw,
fixed until written"). First argument: how many reset steps there have been, so that each reset draws again. -/
opaque unwrittenByte : Nat → Nat → Byte

/-- The transport's answer to the n-th call, a poll, when the input list offers none (U2). -/
opaque freePoll : Nat → PollAnswer

/-- The transport's answer to the n-th call, a read, when the input list offers none (U2). -/
opaque freeRead : Nat → ReadAnswer

/-- The transport's answer to the n-th call, a write, when the input list offers none (U2). -/
opaque freeWrite : Nat → WriteAnswer

/-- The time input at the n-th transport call when the input list gives none (R75, U3). -/
opaque freeNow : Nat → Word

/-- Bits [31:11] of BLOCK_BASE, the platform's open parameter (R64, P1): BLOCK_BASE is aligned to 0x800. R64 gives neither the
host's address space nor BLOCK_BASE a width: that an absolute address has 32 bits is the model's (DESIGN CHOICE, log entry 13). -/
opaque blockPage : BitVec 21

/-- BLOCK_BASE (R64), as a 32-bit address: the width is the model's (DESIGN CHOICE, log entry 13). -/
def blockBase : Word := blockPage.setWidth 32 <<< 11

end Config

end Sys2Proof
end

