-- ==== Sys2Proof/Syntax.lean ====
section
/-! DEFINITION. The instructions of the block, one constructor per row of spec/opcode_table.json: the 13 commands a host
writes to CMD (spec/30_encoding.md R112), and the 129 response headers the framer interprets when a received header is
complete (R95; spec/42_framer.md R173, R183), one per function-code row. A response header is read from the receive stream
as a command is read from CMD; it carries ADU byte 2 in every class, though only class BC uses it (R97). -/

namespace Sys2Proof

/-- The instructions: commands (words written to CMD), then response headers (ADU bytes 1 and 2). -/
inductive Instr where
  /-- CRC.INIT (R131): the accumulator takes its initial value. -/
  | crcInit
  /-- CRC.BYTE b (R132): the accumulator absorbs one byte. -/
  | crcByte (b : Byte)
  /-- CRC.TXBUF n (R133): the CRC of the first n bytes of TXBUF. -/
  | crcTxbuf (n : Half)
  /-- CRC.RXBUF n (R134): the CRC of the first n bytes of RXBUF. -/
  | crcRxbuf (n : Half)
  /-- BUDGET.LOAD (R155): the budget takes ARG, and the time is marked. -/
  | budgetLoad
  /-- BUDGET.CHARGE (R156): one charge. -/
  | budgetCharge
  /-- FRAME.BUILD n (R171): build the ADU of an n-byte PDU in TXBUF. -/
  | frameBuild (n : Half)
  /-- FRAME.PDULEN fc, bc (R175): infer a PDU length. -/
  | framePdulen (fc bc : Byte)
  /-- FRAME.VERIFY n (R185): verify the n-byte ADU in RXBUF. -/
  | frameVerify (n : Half)
  /-- FRAME.FLUSH (R181): drain the idle line. -/
  | frameFlush
  /-- FRAME.SEND (R182): send the ADU in TXBUF. -/
  | frameSend
  /-- FRAME.RECV (R184): receive and verify one ADU. -/
  | frameRecv
  /-- FRAME.XACT n (R186): build, flush, send, receive and verify. -/
  | frameXact (n : Half)
  /-- RESP.EXC (R93, R173): an exception response, function code 0x80 plus `low`; `b2` is the exception code. -/
  | respExc (low : BitVec 7) (b2 : Byte)
  /-- RESP.BC.01 (R95): read coils, PDU length 2 + bc. -/
  | respBc01 (bc : Byte)
  /-- RESP.BC.02 (R95): read discrete inputs, PDU length 2 + bc. -/
  | respBc02 (bc : Byte)
  /-- RESP.BC.03 (R95): read holding registers, PDU length 2 + bc. -/
  | respBc03 (bc : Byte)
  /-- RESP.BC.04 (R95): read input registers, PDU length 2 + bc. -/
  | respBc04 (bc : Byte)
  /-- RESP.BC.0C (R95): read comm-event-log, PDU length 2 + bc. -/
  | respBc0C (bc : Byte)
  /-- RESP.BC.14 (R95): read file/record, PDU length 2 + bc. -/
  | respBc14 (bc : Byte)
  /-- RESP.BC.17 (R95): read-write registers, PDU length 2 + bc. -/
  | respBc17 (bc : Byte)
  /-- RESP.BC.18 (R95): read FIFO, PDU length 2 + bc. -/
  | respBc18 (bc : Byte)
  /-- RESP.FIX.0F (R95): write-multiple coils, PDU length 5. -/
  | respFix0F (b2 : Byte)
  /-- RESP.FIX.10 (R95): write-multiple holding registers, PDU length 5. -/
  | respFix10 (b2 : Byte)
  /-- RESP.FIX.05 (R95): write-single coil, PDU length 5. -/
  | respFix05 (b2 : Byte)
  /-- RESP.FIX.06 (R95): write-single register, PDU length 5. -/
  | respFix06 (b2 : Byte)
  /-- RESP.FIX.16 (R95): mask-write register, PDU length 7. -/
  | respFix16 (b2 : Byte)
  /-- RESP.FIX.0B (R95): get-comm-event-counter, PDU length 5. -/
  | respFix0B (b2 : Byte)
  /-- RESP.FIX.11 (R95): report-server-id, PDU length 5. -/
  | respFix11 (b2 : Byte)
  /-- RESP.FIX.08 (R95): diagnostics, PDU length 5. -/
  | respFix08 (b2 : Byte)
  /-- RESP.UNSUP.00 (R95): no length. -/
  | respUnsup00 (b2 : Byte)
  /-- RESP.UNSUP.07 (R95): no length. -/
  | respUnsup07 (b2 : Byte)
  /-- RESP.UNSUP.09 (R95): no length. -/
  | respUnsup09 (b2 : Byte)
  /-- RESP.UNSUP.0A (R95): no length. -/
  | respUnsup0A (b2 : Byte)
  /-- RESP.UNSUP.0D (R95): no length. -/
  | respUnsup0D (b2 : Byte)
  /-- RESP.UNSUP.0E (R95): no length. -/
  | respUnsup0E (b2 : Byte)
  /-- RESP.UNSUP.12 (R95): no length. -/
  | respUnsup12 (b2 : Byte)
  /-- RESP.UNSUP.13 (R95): no length. -/
  | respUnsup13 (b2 : Byte)
  /-- RESP.UNSUP.15 (R95): no length. -/
  | respUnsup15 (b2 : Byte)
  /-- RESP.UNSUP.19 (R95): no length. -/
  | respUnsup19 (b2 : Byte)
  /-- RESP.UNSUP.1A (R95): no length. -/
  | respUnsup1A (b2 : Byte)
  /-- RESP.UNSUP.1B (R95): no length. -/
  | respUnsup1B (b2 : Byte)
  /-- RESP.UNSUP.1C (R95): no length. -/
  | respUnsup1C (b2 : Byte)
  /-- RESP.UNSUP.1D (R95): no length. -/
  | respUnsup1D (b2 : Byte)
  /-- RESP.UNSUP.1E (R95): no length. -/
  | respUnsup1E (b2 : Byte)
  /-- RESP.UNSUP.1F (R95): no length. -/
  | respUnsup1F (b2 : Byte)
  /-- RESP.UNSUP.20 (R95): no length. -/
  | respUnsup20 (b2 : Byte)
  /-- RESP.UNSUP.21 (R95): no length. -/
  | respUnsup21 (b2 : Byte)
  /-- RESP.UNSUP.22 (R95): no length. -/
  | respUnsup22 (b2 : Byte)
  /-- RESP.UNSUP.23 (R95): no length. -/
  | respUnsup23 (b2 : Byte)
  /-- RESP.UNSUP.24 (R95): no length. -/
  | respUnsup24 (b2 : Byte)
  /-- RESP.UNSUP.25 (R95): no length. -/
  | respUnsup25 (b2 : Byte)
  /-- RESP.UNSUP.26 (R95): no length. -/
  | respUnsup26 (b2 : Byte)
  /-- RESP.UNSUP.27 (R95): no length. -/
  | respUnsup27 (b2 : Byte)
  /-- RESP.UNSUP.28 (R95): no length. -/
  | respUnsup28 (b2 : Byte)
  /-- RESP.UNSUP.29 (R95): no length. -/
  | respUnsup29 (b2 : Byte)
  /-- RESP.UNSUP.2A (R95): no length. -/
  | respUnsup2A (b2 : Byte)
  /-- RESP.UNSUP.2B (R95): no length. -/
  | respUnsup2B (b2 : Byte)
  /-- RESP.UNSUP.2C (R95): no length. -/
  | respUnsup2C (b2 : Byte)
  /-- RESP.UNSUP.2D (R95): no length. -/
  | respUnsup2D (b2 : Byte)
  /-- RESP.UNSUP.2E (R95): no length. -/
  | respUnsup2E (b2 : Byte)
  /-- RESP.UNSUP.2F (R95): no length. -/
  | respUnsup2F (b2 : Byte)
  /-- RESP.UNSUP.30 (R95): no length. -/
  | respUnsup30 (b2 : Byte)
  /-- RESP.UNSUP.31 (R95): no length. -/
  | respUnsup31 (b2 : Byte)
  /-- RESP.UNSUP.32 (R95): no length. -/
  | respUnsup32 (b2 : Byte)
  /-- RESP.UNSUP.33 (R95): no length. -/
  | respUnsup33 (b2 : Byte)
  /-- RESP.UNSUP.34 (R95): no length. -/
  | respUnsup34 (b2 : Byte)
  /-- RESP.UNSUP.35 (R95): no length. -/
  | respUnsup35 (b2 : Byte)
  /-- RESP.UNSUP.36 (R95): no length. -/
  | respUnsup36 (b2 : Byte)
  /-- RESP.UNSUP.37 (R95): no length. -/
  | respUnsup37 (b2 : Byte)
  /-- RESP.UNSUP.38 (R95): no length. -/
  | respUnsup38 (b2 : Byte)
  /-- RESP.UNSUP.39 (R95): no length. -/
  | respUnsup39 (b2 : Byte)
  /-- RESP.UNSUP.3A (R95): no length. -/
  | respUnsup3A (b2 : Byte)
  /-- RESP.UNSUP.3B (R95): no length. -/
  | respUnsup3B (b2 : Byte)
  /-- RESP.UNSUP.3C (R95): no length. -/
  | respUnsup3C (b2 : Byte)
  /-- RESP.UNSUP.3D (R95): no length. -/
  | respUnsup3D (b2 : Byte)
  /-- RESP.UNSUP.3E (R95): no length. -/
  | respUnsup3E (b2 : Byte)
  /-- RESP.UNSUP.3F (R95): no length. -/
  | respUnsup3F (b2 : Byte)
  /-- RESP.UNSUP.40 (R95): no length. -/
  | respUnsup40 (b2 : Byte)
  /-- RESP.UNSUP.41 (R95): no length. -/
  | respUnsup41 (b2 : Byte)
  /-- RESP.UNSUP.42 (R95): no length. -/
  | respUnsup42 (b2 : Byte)
  /-- RESP.UNSUP.43 (R95): no length. -/
  | respUnsup43 (b2 : Byte)
  /-- RESP.UNSUP.44 (R95): no length. -/
  | respUnsup44 (b2 : Byte)
  /-- RESP.UNSUP.45 (R95): no length. -/
  | respUnsup45 (b2 : Byte)
  /-- RESP.UNSUP.46 (R95): no length. -/
  | respUnsup46 (b2 : Byte)
  /-- RESP.UNSUP.47 (R95): no length. -/
  | respUnsup47 (b2 : Byte)
  /-- RESP.UNSUP.48 (R95): no length. -/
  | respUnsup48 (b2 : Byte)
  /-- RESP.UNSUP.49 (R95): no length. -/
  | respUnsup49 (b2 : Byte)
  /-- RESP.UNSUP.4A (R95): no length. -/
  | respUnsup4A (b2 : Byte)
  /-- RESP.UNSUP.4B (R95): no length. -/
  | respUnsup4B (b2 : Byte)
  /-- RESP.UNSUP.4C (R95): no length. -/
  | respUnsup4C (b2 : Byte)
  /-- RESP.UNSUP.4D (R95): no length. -/
  | respUnsup4D (b2 : Byte)
  /-- RESP.UNSUP.4E (R95): no length. -/
  | respUnsup4E (b2 : Byte)
  /-- RESP.UNSUP.4F (R95): no length. -/
  | respUnsup4F (b2 : Byte)
  /-- RESP.UNSUP.50 (R95): no length. -/
  | respUnsup50 (b2 : Byte)
  /-- RESP.UNSUP.51 (R95): no length. -/
  | respUnsup51 (b2 : Byte)
  /-- RESP.UNSUP.52 (R95): no length. -/
  | respUnsup52 (b2 : Byte)
  /-- RESP.UNSUP.53 (R95): no length. -/
  | respUnsup53 (b2 : Byte)
  /-- RESP.UNSUP.54 (R95): no length. -/
  | respUnsup54 (b2 : Byte)
  /-- RESP.UNSUP.55 (R95): no length. -/
  | respUnsup55 (b2 : Byte)
  /-- RESP.UNSUP.56 (R95): no length. -/
  | respUnsup56 (b2 : Byte)
  /-- RESP.UNSUP.57 (R95): no length. -/
  | respUnsup57 (b2 : Byte)
  /-- RESP.UNSUP.58 (R95): no length. -/
  | respUnsup58 (b2 : Byte)
  /-- RESP.UNSUP.59 (R95): no length. -/
  | respUnsup59 (b2 : Byte)
  /-- RESP.UNSUP.5A (R95): no length. -/
  | respUnsup5A (b2 : Byte)
  /-- RESP.UNSUP.5B (R95): no length. -/
  | respUnsup5B (b2 : Byte)
  /-- RESP.UNSUP.5C (R95): no length. -/
  | respUnsup5C (b2 : Byte)
  /-- RESP.UNSUP.5D (R95): no length. -/
  | respUnsup5D (b2 : Byte)
  /-- RESP.UNSUP.5E (R95): no length. -/
  | respUnsup5E (b2 : Byte)
  /-- RESP.UNSUP.5F (R95): no length. -/
  | respUnsup5F (b2 : Byte)
  /-- RESP.UNSUP.60 (R95): no length. -/
  | respUnsup60 (b2 : Byte)
  /-- RESP.UNSUP.61 (R95): no length. -/
  | respUnsup61 (b2 : Byte)
  /-- RESP.UNSUP.62 (R95): no length. -/
  | respUnsup62 (b2 : Byte)
  /-- RESP.UNSUP.63 (R95): no length. -/
  | respUnsup63 (b2 : Byte)
  /-- RESP.UNSUP.64 (R95): no length. -/
  | respUnsup64 (b2 : Byte)
  /-- RESP.UNSUP.65 (R95): no length. -/
  | respUnsup65 (b2 : Byte)
  /-- RESP.UNSUP.66 (R95): no length. -/
  | respUnsup66 (b2 : Byte)
  /-- RESP.UNSUP.67 (R95): no length. -/
  | respUnsup67 (b2 : Byte)
  /-- RESP.UNSUP.68 (R95): no length. -/
  | respUnsup68 (b2 : Byte)
  /-- RESP.UNSUP.69 (R95): no length. -/
  | respUnsup69 (b2 : Byte)
  /-- RESP.UNSUP.6A (R95): no length. -/
  | respUnsup6A (b2 : Byte)
  /-- RESP.UNSUP.6B (R95): no length. -/
  | respUnsup6B (b2 : Byte)
  /-- RESP.UNSUP.6C (R95): no length. -/
  | respUnsup6C (b2 : Byte)
  /-- RESP.UNSUP.6D (R95): no length. -/
  | respUnsup6D (b2 : Byte)
  /-- RESP.UNSUP.6E (R95): no length. -/
  | respUnsup6E (b2 : Byte)
  /-- RESP.UNSUP.6F (R95): no length. -/
  | respUnsup6F (b2 : Byte)
  /-- RESP.UNSUP.70 (R95): no length. -/
  | respUnsup70 (b2 : Byte)
  /-- RESP.UNSUP.71 (R95): no length. -/
  | respUnsup71 (b2 : Byte)
  /-- RESP.UNSUP.72 (R95): no length. -/
  | respUnsup72 (b2 : Byte)
  /-- RESP.UNSUP.73 (R95): no length. -/
  | respUnsup73 (b2 : Byte)
  /-- RESP.UNSUP.74 (R95): no length. -/
  | respUnsup74 (b2 : Byte)
  /-- RESP.UNSUP.75 (R95): no length. -/
  | respUnsup75 (b2 : Byte)
  /-- RESP.UNSUP.76 (R95): no length. -/
  | respUnsup76 (b2 : Byte)
  /-- RESP.UNSUP.77 (R95): no length. -/
  | respUnsup77 (b2 : Byte)
  /-- RESP.UNSUP.78 (R95): no length. -/
  | respUnsup78 (b2 : Byte)
  /-- RESP.UNSUP.79 (R95): no length. -/
  | respUnsup79 (b2 : Byte)
  /-- RESP.UNSUP.7A (R95): no length. -/
  | respUnsup7A (b2 : Byte)
  /-- RESP.UNSUP.7B (R95): no length. -/
  | respUnsup7B (b2 : Byte)
  /-- RESP.UNSUP.7C (R95): no length. -/
  | respUnsup7C (b2 : Byte)
  /-- RESP.UNSUP.7D (R95): no length. -/
  | respUnsup7D (b2 : Byte)
  /-- RESP.UNSUP.7E (R95): no length. -/
  | respUnsup7E (b2 : Byte)
  /-- RESP.UNSUP.7F (R95): no length. -/
  | respUnsup7F (b2 : Byte)
  deriving DecidableEq, Repr

end Sys2Proof
end

