-- ==== Sys2Proof/WellFormed.lean ====
section
/-! DEFINITION. Well-formedness: the operand range the opcode table states for a row (spec/30_encoding.md R112 for N16,
R97 and R174 for the byte count of a response). The machine gives an ill-formed instruction its meaning too: it completes
with the error the spec names. -/

namespace Sys2Proof

/-- The legal N16 range of R112. -/
def lengthIn (lo hi : Nat) (n : Half) : Bool := decide (lo ≤ n.toNat) && decide (n.toNat ≤ hi)

/-- The byte counts that give a PDU length 2 + bc of at most 253 (R97). -/
def byteCountLegal (bc : Byte) : Bool := decide (bc.toNat ≤ 251)

/-- An instruction's operands lie in the range its row states. -/
def WellFormed (i : Instr) : Bool :=
  match i with
  | .crcInit => true
  | .crcByte _ => true
  | .crcTxbuf n => lengthIn 0 260 n
  | .crcRxbuf n => lengthIn 0 260 n
  | .budgetLoad => true
  | .budgetCharge => true
  | .frameBuild n => lengthIn 1 253 n
  | .framePdulen _ _ => true
  | .frameVerify n => lengthIn 4 256 n
  | .frameFlush => true
  | .frameSend => true
  | .frameRecv => true
  | .frameXact n => lengthIn 1 253 n
  | .respExc _ _ => true
  | .respBc01 bc => byteCountLegal bc
  | .respBc02 bc => byteCountLegal bc
  | .respBc03 bc => byteCountLegal bc
  | .respBc04 bc => byteCountLegal bc
  | .respBc0C bc => byteCountLegal bc
  | .respBc14 bc => byteCountLegal bc
  | .respBc17 bc => byteCountLegal bc
  | .respBc18 bc => byteCountLegal bc
  | .respFix0F _ => true
  | .respFix10 _ => true
  | .respFix05 _ => true
  | .respFix06 _ => true
  | .respFix16 _ => true
  | .respFix0B _ => true
  | .respFix11 _ => true
  | .respFix08 _ => true
  | .respUnsup00 _ => true
  | .respUnsup07 _ => true
  | .respUnsup09 _ => true
  | .respUnsup0A _ => true
  | .respUnsup0D _ => true
  | .respUnsup0E _ => true
  | .respUnsup12 _ => true
  | .respUnsup13 _ => true
  | .respUnsup15 _ => true
  | .respUnsup19 _ => true
  | .respUnsup1A _ => true
  | .respUnsup1B _ => true
  | .respUnsup1C _ => true
  | .respUnsup1D _ => true
  | .respUnsup1E _ => true
  | .respUnsup1F _ => true
  | .respUnsup20 _ => true
  | .respUnsup21 _ => true
  | .respUnsup22 _ => true
  | .respUnsup23 _ => true
  | .respUnsup24 _ => true
  | .respUnsup25 _ => true
  | .respUnsup26 _ => true
  | .respUnsup27 _ => true
  | .respUnsup28 _ => true
  | .respUnsup29 _ => true
  | .respUnsup2A _ => true
  | .respUnsup2B _ => true
  | .respUnsup2C _ => true
  | .respUnsup2D _ => true
  | .respUnsup2E _ => true
  | .respUnsup2F _ => true
  | .respUnsup30 _ => true
  | .respUnsup31 _ => true
  | .respUnsup32 _ => true
  | .respUnsup33 _ => true
  | .respUnsup34 _ => true
  | .respUnsup35 _ => true
  | .respUnsup36 _ => true
  | .respUnsup37 _ => true
  | .respUnsup38 _ => true
  | .respUnsup39 _ => true
  | .respUnsup3A _ => true
  | .respUnsup3B _ => true
  | .respUnsup3C _ => true
  | .respUnsup3D _ => true
  | .respUnsup3E _ => true
  | .respUnsup3F _ => true
  | .respUnsup40 _ => true
  | .respUnsup41 _ => true
  | .respUnsup42 _ => true
  | .respUnsup43 _ => true
  | .respUnsup44 _ => true
  | .respUnsup45 _ => true
  | .respUnsup46 _ => true
  | .respUnsup47 _ => true
  | .respUnsup48 _ => true
  | .respUnsup49 _ => true
  | .respUnsup4A _ => true
  | .respUnsup4B _ => true
  | .respUnsup4C _ => true
  | .respUnsup4D _ => true
  | .respUnsup4E _ => true
  | .respUnsup4F _ => true
  | .respUnsup50 _ => true
  | .respUnsup51 _ => true
  | .respUnsup52 _ => true
  | .respUnsup53 _ => true
  | .respUnsup54 _ => true
  | .respUnsup55 _ => true
  | .respUnsup56 _ => true
  | .respUnsup57 _ => true
  | .respUnsup58 _ => true
  | .respUnsup59 _ => true
  | .respUnsup5A _ => true
  | .respUnsup5B _ => true
  | .respUnsup5C _ => true
  | .respUnsup5D _ => true
  | .respUnsup5E _ => true
  | .respUnsup5F _ => true
  | .respUnsup60 _ => true
  | .respUnsup61 _ => true
  | .respUnsup62 _ => true
  | .respUnsup63 _ => true
  | .respUnsup64 _ => true
  | .respUnsup65 _ => true
  | .respUnsup66 _ => true
  | .respUnsup67 _ => true
  | .respUnsup68 _ => true
  | .respUnsup69 _ => true
  | .respUnsup6A _ => true
  | .respUnsup6B _ => true
  | .respUnsup6C _ => true
  | .respUnsup6D _ => true
  | .respUnsup6E _ => true
  | .respUnsup6F _ => true
  | .respUnsup70 _ => true
  | .respUnsup71 _ => true
  | .respUnsup72 _ => true
  | .respUnsup73 _ => true
  | .respUnsup74 _ => true
  | .respUnsup75 _ => true
  | .respUnsup76 _ => true
  | .respUnsup77 _ => true
  | .respUnsup78 _ => true
  | .respUnsup79 _ => true
  | .respUnsup7A _ => true
  | .respUnsup7B _ => true
  | .respUnsup7C _ => true
  | .respUnsup7D _ => true
  | .respUnsup7E _ => true
  | .respUnsup7F _ => true

end Sys2Proof
end

