-- ==== Sys2Proof/Decode.lean ====
section
/-! DEFINITION. Decoding and encoding. A command word is decoded by spec/30_encoding.md R110 to R115, a response header
(ADU bytes 1 and 2) by R95; both are total, and a rejection has a name. The operand range check of R113 (detail 3) is not
a rejection here: the command's own rule makes it (R133, R171, R185, R186), so the meaning does. After the decoder comes
the encoder, written from the same tables. -/

namespace Sys2Proof

/-- The encoded form of an instruction: a command word (R110), or a response header, ADU byte 1 then ADU byte 2 (R96). -/
inductive Code where
  | command (w : Word)
  | header (fc bc : Byte)
  deriving DecidableEq, Repr

/-- Why a command word is no command (R113): a reserved opcode (detail 1), or a reserved bit that is 1 (detail 2). -/
inductive DecodeError where
  | reservedOpcode
  | reservedBits
  deriving DecidableEq, Repr

/-! The opcodes of R112. -/
namespace Opcode

abbrev crcInit : Byte := 0x01
abbrev crcByte : Byte := 0x02
abbrev crcTxbuf : Byte := 0x03
abbrev crcRxbuf : Byte := 0x04
abbrev budgetLoad : Byte := 0x10
abbrev budgetCharge : Byte := 0x11
abbrev frameBuild : Byte := 0x20
abbrev framePdulen : Byte := 0x21
abbrev frameVerify : Byte := 0x22
abbrev frameFlush : Byte := 0x23
abbrev frameSend : Byte := 0x24
abbrev frameRecv : Byte := 0x25
abbrev frameXact : Byte := 0x26

end Opcode

/-- OP: bits [7:0] of a command word (R110). -/
def opcodeOf (w : Word) : Byte := w.extractLsb' 0 8

/-- A8: bits [15:8] (R111). -/
def fieldA8 (w : Word) : Byte := w.extractLsb' 8 8

/-- B8: bits [23:16] (R111). -/
def fieldB8 (w : Word) : Byte := w.extractLsb' 16 8

/-- N16: bits [31:16], unsigned (R111). -/
def fieldN16 (w : Word) : Half := w.extractLsb' 16 16

/-- Answers the instruction when the reserved bits are all 0, else the rejection of R113, detail 2. -/
def ifReservedZero (zero : Bool) (i : Instr) : Except DecodeError Instr :=
  if zero then .ok i else .error .reservedBits

/-- Format Z: bits [31:8] are reserved (R110). -/
def formatZ (w : Word) (i : Instr) : Except DecodeError Instr :=
  ifReservedZero (w.extractLsb' 8 24 == 0) i

/-- Format B: bits [31:16] are reserved (R110). -/
def formatB (w : Word) (mk : Byte → Instr) : Except DecodeError Instr :=
  ifReservedZero (w.extractLsb' 16 16 == 0) (mk (fieldA8 w))

/-- Format N: bits [15:8] are reserved (R110). -/
def formatN (w : Word) (mk : Half → Instr) : Except DecodeError Instr :=
  ifReservedZero (w.extractLsb' 8 8 == 0) (mk (fieldN16 w))

/-- Format P: bits [31:24] are reserved (R110). -/
def formatP (w : Word) (mk : Byte → Byte → Instr) : Except DecodeError Instr :=
  ifReservedZero (w.extractLsb' 24 8 == 0) (mk (fieldA8 w) (fieldB8 w))

/-- The decoder of a command word (R112, R113): the opcode first, then the reserved bits of its format (R115). -/
def decodeCommand (w : Word) : Except DecodeError Instr :=
  let op := opcodeOf w
  if op = Opcode.crcInit then formatZ w .crcInit
  else if op = Opcode.crcByte then formatB w .crcByte
  else if op = Opcode.crcTxbuf then formatN w .crcTxbuf
  else if op = Opcode.crcRxbuf then formatN w .crcRxbuf
  else if op = Opcode.budgetLoad then formatZ w .budgetLoad
  else if op = Opcode.budgetCharge then formatZ w .budgetCharge
  else if op = Opcode.frameBuild then formatN w .frameBuild
  else if op = Opcode.framePdulen then formatP w .framePdulen
  else if op = Opcode.frameVerify then formatN w .frameVerify
  else if op = Opcode.frameFlush then formatZ w .frameFlush
  else if op = Opcode.frameSend then formatZ w .frameSend
  else if op = Opcode.frameRecv then formatZ w .frameRecv
  else if op = Opcode.frameXact then formatN w .frameXact
  else .error .reservedOpcode

/-- The response rows of function codes 0x00 to 0x0F (R95). -/
def headerRows0 : List (Byte → Instr) :=
  [.respUnsup00, .respBc01, .respBc02, .respBc03, .respBc04, .respFix05, .respFix06, .respUnsup07,
   .respFix08, .respUnsup09, .respUnsup0A, .respFix0B, .respBc0C, .respUnsup0D, .respUnsup0E, .respFix0F]

/-- The response rows of function codes 0x10 to 0x1F (R95). -/
def headerRows1 : List (Byte → Instr) :=
  [.respFix10, .respFix11, .respUnsup12, .respUnsup13, .respBc14, .respUnsup15, .respFix16, .respBc17,
   .respBc18, .respUnsup19, .respUnsup1A, .respUnsup1B, .respUnsup1C, .respUnsup1D, .respUnsup1E, .respUnsup1F]

/-- The response rows of function codes 0x20 to 0x2F (R95). -/
def headerRows2 : List (Byte → Instr) :=
  [.respUnsup20, .respUnsup21, .respUnsup22, .respUnsup23, .respUnsup24, .respUnsup25, .respUnsup26, .respUnsup27,
   .respUnsup28, .respUnsup29, .respUnsup2A, .respUnsup2B, .respUnsup2C, .respUnsup2D, .respUnsup2E, .respUnsup2F]

/-- The response rows of function codes 0x30 to 0x3F (R95). -/
def headerRows3 : List (Byte → Instr) :=
  [.respUnsup30, .respUnsup31, .respUnsup32, .respUnsup33, .respUnsup34, .respUnsup35, .respUnsup36, .respUnsup37,
   .respUnsup38, .respUnsup39, .respUnsup3A, .respUnsup3B, .respUnsup3C, .respUnsup3D, .respUnsup3E, .respUnsup3F]

/-- The response rows of function codes 0x40 to 0x4F (R95). -/
def headerRows4 : List (Byte → Instr) :=
  [.respUnsup40, .respUnsup41, .respUnsup42, .respUnsup43, .respUnsup44, .respUnsup45, .respUnsup46, .respUnsup47,
   .respUnsup48, .respUnsup49, .respUnsup4A, .respUnsup4B, .respUnsup4C, .respUnsup4D, .respUnsup4E, .respUnsup4F]

/-- The response rows of function codes 0x50 to 0x5F (R95). -/
def headerRows5 : List (Byte → Instr) :=
  [.respUnsup50, .respUnsup51, .respUnsup52, .respUnsup53, .respUnsup54, .respUnsup55, .respUnsup56, .respUnsup57,
   .respUnsup58, .respUnsup59, .respUnsup5A, .respUnsup5B, .respUnsup5C, .respUnsup5D, .respUnsup5E, .respUnsup5F]

/-- The response rows of function codes 0x60 to 0x6F (R95). -/
def headerRows6 : List (Byte → Instr) :=
  [.respUnsup60, .respUnsup61, .respUnsup62, .respUnsup63, .respUnsup64, .respUnsup65, .respUnsup66, .respUnsup67,
   .respUnsup68, .respUnsup69, .respUnsup6A, .respUnsup6B, .respUnsup6C, .respUnsup6D, .respUnsup6E, .respUnsup6F]

/-- The response rows of function codes 0x70 to 0x7F (R95). -/
def headerRows7 : List (Byte → Instr) :=
  [.respUnsup70, .respUnsup71, .respUnsup72, .respUnsup73, .respUnsup74, .respUnsup75, .respUnsup76, .respUnsup77,
   .respUnsup78, .respUnsup79, .respUnsup7A, .respUnsup7B, .respUnsup7C, .respUnsup7D, .respUnsup7E, .respUnsup7F]

/-- The response rows of the function codes without bit 7, indexed by function code (R95). -/
def headerRows : List (Byte → Instr) :=
  headerRows0 ++ headerRows1 ++ headerRows2 ++ headerRows3 ++ headerRows4 ++ headerRows5 ++ headerRows6 ++ headerRows7

/-- The decoder of a response header (R173, R95): the exception test comes first, then the function code's row. -/
def decodeHeader (fc bc : Byte) : Instr :=
  if fc.msb then .respExc (fc.setWidth 7) bc
  else (headerRows.getD fc.toNat .respUnsup00) bc

/-- The decoder: total on every command word and every response header. -/
def decode : Code → Except DecodeError Instr
  | .command w => decodeCommand w
  | .header fc bc => .ok (decodeHeader fc bc)

/-- Format Z's word (R110). -/
def encodeZ (op : Byte) : Code := .command (op.setWidth 32)

/-- Format B's word (R110): `OP | (A8 << 8)`. -/
def encodeB (op a : Byte) : Code := .command (op.setWidth 32 ||| a.setWidth 32 <<< 8)

/-- Format N's word (R110): `(N16 << 16) | OP`. -/
def encodeN (op : Byte) (n : Half) : Code := .command (n.setWidth 32 <<< 16 ||| op.setWidth 32)

/-- Format P's word (R110): `(B8 << 16) | (A8 << 8) | OP`. -/
def encodeP (op a b : Byte) : Code := .command (b.setWidth 32 <<< 16 ||| a.setWidth 32 <<< 8 ||| op.setWidth 32)

/-- The encoder (R112 for commands, R95 for response headers). -/
def encode (i : Instr) : Code :=
  match i with
  | .crcInit => encodeZ Opcode.crcInit
  | .crcByte b => encodeB Opcode.crcByte b
  | .crcTxbuf n => encodeN Opcode.crcTxbuf n
  | .crcRxbuf n => encodeN Opcode.crcRxbuf n
  | .budgetLoad => encodeZ Opcode.budgetLoad
  | .budgetCharge => encodeZ Opcode.budgetCharge
  | .frameBuild n => encodeN Opcode.frameBuild n
  | .framePdulen fc bc => encodeP Opcode.framePdulen fc bc
  | .frameVerify n => encodeN Opcode.frameVerify n
  | .frameFlush => encodeZ Opcode.frameFlush
  | .frameSend => encodeZ Opcode.frameSend
  | .frameRecv => encodeZ Opcode.frameRecv
  | .frameXact n => encodeN Opcode.frameXact n
  | .respExc low b2 => .header (0x80 ||| low.setWidth 8) b2
  | .respBc01 b => .header 0x01 b
  | .respBc02 b => .header 0x02 b
  | .respBc03 b => .header 0x03 b
  | .respBc04 b => .header 0x04 b
  | .respBc0C b => .header 0x0C b
  | .respBc14 b => .header 0x14 b
  | .respBc17 b => .header 0x17 b
  | .respBc18 b => .header 0x18 b
  | .respFix0F b => .header 0x0F b
  | .respFix10 b => .header 0x10 b
  | .respFix05 b => .header 0x05 b
  | .respFix06 b => .header 0x06 b
  | .respFix16 b => .header 0x16 b
  | .respFix0B b => .header 0x0B b
  | .respFix11 b => .header 0x11 b
  | .respFix08 b => .header 0x08 b
  | .respUnsup00 b => .header 0x00 b
  | .respUnsup07 b => .header 0x07 b
  | .respUnsup09 b => .header 0x09 b
  | .respUnsup0A b => .header 0x0A b
  | .respUnsup0D b => .header 0x0D b
  | .respUnsup0E b => .header 0x0E b
  | .respUnsup12 b => .header 0x12 b
  | .respUnsup13 b => .header 0x13 b
  | .respUnsup15 b => .header 0x15 b
  | .respUnsup19 b => .header 0x19 b
  | .respUnsup1A b => .header 0x1A b
  | .respUnsup1B b => .header 0x1B b
  | .respUnsup1C b => .header 0x1C b
  | .respUnsup1D b => .header 0x1D b
  | .respUnsup1E b => .header 0x1E b
  | .respUnsup1F b => .header 0x1F b
  | .respUnsup20 b => .header 0x20 b
  | .respUnsup21 b => .header 0x21 b
  | .respUnsup22 b => .header 0x22 b
  | .respUnsup23 b => .header 0x23 b
  | .respUnsup24 b => .header 0x24 b
  | .respUnsup25 b => .header 0x25 b
  | .respUnsup26 b => .header 0x26 b
  | .respUnsup27 b => .header 0x27 b
  | .respUnsup28 b => .header 0x28 b
  | .respUnsup29 b => .header 0x29 b
  | .respUnsup2A b => .header 0x2A b
  | .respUnsup2B b => .header 0x2B b
  | .respUnsup2C b => .header 0x2C b
  | .respUnsup2D b => .header 0x2D b
  | .respUnsup2E b => .header 0x2E b
  | .respUnsup2F b => .header 0x2F b
  | .respUnsup30 b => .header 0x30 b
  | .respUnsup31 b => .header 0x31 b
  | .respUnsup32 b => .header 0x32 b
  | .respUnsup33 b => .header 0x33 b
  | .respUnsup34 b => .header 0x34 b
  | .respUnsup35 b => .header 0x35 b
  | .respUnsup36 b => .header 0x36 b
  | .respUnsup37 b => .header 0x37 b
  | .respUnsup38 b => .header 0x38 b
  | .respUnsup39 b => .header 0x39 b
  | .respUnsup3A b => .header 0x3A b
  | .respUnsup3B b => .header 0x3B b
  | .respUnsup3C b => .header 0x3C b
  | .respUnsup3D b => .header 0x3D b
  | .respUnsup3E b => .header 0x3E b
  | .respUnsup3F b => .header 0x3F b
  | .respUnsup40 b => .header 0x40 b
  | .respUnsup41 b => .header 0x41 b
  | .respUnsup42 b => .header 0x42 b
  | .respUnsup43 b => .header 0x43 b
  | .respUnsup44 b => .header 0x44 b
  | .respUnsup45 b => .header 0x45 b
  | .respUnsup46 b => .header 0x46 b
  | .respUnsup47 b => .header 0x47 b
  | .respUnsup48 b => .header 0x48 b
  | .respUnsup49 b => .header 0x49 b
  | .respUnsup4A b => .header 0x4A b
  | .respUnsup4B b => .header 0x4B b
  | .respUnsup4C b => .header 0x4C b
  | .respUnsup4D b => .header 0x4D b
  | .respUnsup4E b => .header 0x4E b
  | .respUnsup4F b => .header 0x4F b
  | .respUnsup50 b => .header 0x50 b
  | .respUnsup51 b => .header 0x51 b
  | .respUnsup52 b => .header 0x52 b
  | .respUnsup53 b => .header 0x53 b
  | .respUnsup54 b => .header 0x54 b
  | .respUnsup55 b => .header 0x55 b
  | .respUnsup56 b => .header 0x56 b
  | .respUnsup57 b => .header 0x57 b
  | .respUnsup58 b => .header 0x58 b
  | .respUnsup59 b => .header 0x59 b
  | .respUnsup5A b => .header 0x5A b
  | .respUnsup5B b => .header 0x5B b
  | .respUnsup5C b => .header 0x5C b
  | .respUnsup5D b => .header 0x5D b
  | .respUnsup5E b => .header 0x5E b
  | .respUnsup5F b => .header 0x5F b
  | .respUnsup60 b => .header 0x60 b
  | .respUnsup61 b => .header 0x61 b
  | .respUnsup62 b => .header 0x62 b
  | .respUnsup63 b => .header 0x63 b
  | .respUnsup64 b => .header 0x64 b
  | .respUnsup65 b => .header 0x65 b
  | .respUnsup66 b => .header 0x66 b
  | .respUnsup67 b => .header 0x67 b
  | .respUnsup68 b => .header 0x68 b
  | .respUnsup69 b => .header 0x69 b
  | .respUnsup6A b => .header 0x6A b
  | .respUnsup6B b => .header 0x6B b
  | .respUnsup6C b => .header 0x6C b
  | .respUnsup6D b => .header 0x6D b
  | .respUnsup6E b => .header 0x6E b
  | .respUnsup6F b => .header 0x6F b
  | .respUnsup70 b => .header 0x70 b
  | .respUnsup71 b => .header 0x71 b
  | .respUnsup72 b => .header 0x72 b
  | .respUnsup73 b => .header 0x73 b
  | .respUnsup74 b => .header 0x74 b
  | .respUnsup75 b => .header 0x75 b
  | .respUnsup76 b => .header 0x76 b
  | .respUnsup77 b => .header 0x77 b
  | .respUnsup78 b => .header 0x78 b
  | .respUnsup79 b => .header 0x79 b
  | .respUnsup7A b => .header 0x7A b
  | .respUnsup7B b => .header 0x7B b
  | .respUnsup7C b => .header 0x7C b
  | .respUnsup7D b => .header 0x7D b
  | .respUnsup7E b => .header 0x7E b
  | .respUnsup7F b => .header 0x7F b

/-- The encoded form of a table row's bits: a row of at most 8 bits is a response header (bits [7:0] are ADU byte 1, and
bits [15:8] ADU byte 2), every other row a command word. -/
def tableCode (nbits w : Nat) : Code :=
  let v := w % 2 ^ nbits
  if nbits ≤ 8 then .header (BitVec.ofNat 8 v) (BitVec.ofNat 8 (v / 256)) else .command (BitVec.ofNat 32 v)

/-- The instruction the decoder reads from a table row's bits, bit 0 the least significant of the first word; none where
the decoder rejects them. -/
def decodeTableWord (nbits w : Nat) : Option Instr :=
  match decode (tableCode nbits w) with
  | .ok i => some i
  | .error _ => none

end Sys2Proof
end

