-- ==== Sys2Proof/Machine/State.lean ====
section
/-! DEFINITION. The state of the block (spec/10_state.md R20 to R54) with the inputs the outside world gives it and what the
block has driven out, as plain data; the reasons a step can stop; and the state after reset (R54, spec/70_reset_and_hazards.md
R260). -/

namespace Sys2Proof.Machine

/-- The phase of the running command, and the phase a command completed in (R41, R30). -/
inductive Phase where
  | idle
  | flush
  | send
  | rxHdr
  | rxRest
  | verify
  deriving DecidableEq, Repr

/-- Which transport call the next round of the current phase makes (R51): a poll, or the transfer after a poll that
reported ready. -/
inductive Sub where
  | poll
  | xfer
  deriving DecidableEq, Repr

/-- The error kinds of STATUS.ERR (spec/60_exceptions.md R230); configError is a kind the block never raises (R29). -/
inductive ErrKind where
  | success
  | invalidOperation
  | ioError
  | linkBroken
  | protocolError
  | timeout
  | internalError
  | configError
  | busy
  deriving DecidableEq, Repr

/-- The width of a host access (spec/20_memory.md R63). -/
inductive Width where
  | w8
  | w16
  | w32
  deriving DecidableEq, Repr

/-- A host access (R63, R65); a write carries its data in the low bits of `data`. -/
inductive Access where
  | read (width : Width)
  | write (width : Width) (data : Word)
  deriving DecidableEq, Repr

/-- The transport's answer to one call (R70 to R73). -/
inductive Answer where
  | poll (a : PollAnswer)
  | read (a : ReadAnswer)
  | write (a : WriteAnswer)
  deriving DecidableEq, Repr

/-- A transport call the block has made (R70 to R73), with its argument. -/
inductive Call where
  | pollReadable (timeout : Word)
  | pollWritable (timeout : Word)
  | read (max : Nat)
  | write (bytes : List Byte)
  deriving DecidableEq, Repr

/-- What the outside world does next (spec/00_scope.md R12, R13; R280): one input is taken by one step. `now` is the value of
the time input in that step (R75). -/
inductive Input where
  /-- a host accesses the block at a byte offset of its window (R63) -/
  | host (offset : BitVec 11) (access : Access) (now : Word)
  /-- a host access at an absolute address (R64): the block's when it lies in the block's window -/
  | bus (address : Word) (access : Access) (now : Word)
  /-- the block takes its enabled step (spec/42_framer.md R188), and the transport answers its call so -/
  | round (answer : Answer) (now : Word)
  /-- the lifecycle drives LINK_OPEN (R44, R76) -/
  | link (isOpen : Bool)
  /-- RESET is asserted or released (R260) -/
  | reset (asserted : Bool)
  deriving DecidableEq, Repr

/-- The frame buffers, as the written bytes at their offsets in the host window (R49, R50): addresses strictly rising, and
only bytes written since reset are listed, so that an unlisted address has no value here. -/
abbrev Memory := List Host.Cell

structure State where
  /-- STATUS.BUSY (R24) -/
  busy : Bool
  /-- STATUS.DONE (R25) -/
  done : Bool
  /-- STATUS.COLL (R26) -/
  coll : Bool
  /-- STATUS.RX_VALID (R27) -/
  rxValid : Bool
  /-- STATUS.ERR (R29) -/
  err : ErrKind
  /-- STATUS.END_PHASE (R30) -/
  endPhase : Phase
  /-- STATUS.DETAIL (R31) -/
  detail : Byte
  /-- STATUS.LAST_OP (R32) -/
  lastOp : Byte
  /-- ARG (R33) -/
  arg : Word
  /-- SLAVE (R34) -/
  slave : Byte
  /-- BUDGET, two's complement (R35) -/
  budget : Word
  /-- MARK (R36) -/
  mark : Word
  /-- CRC (R38) -/
  crc : Half
  /-- RESULT (R39) -/
  result : Word
  /-- TX_LEN (R40) -/
  txLen : Half
  /-- TX_WRITTEN (R42) -/
  txWritten : Half
  /-- RX_COUNT (R43) -/
  rxCount : Half
  /-- RX_NEED (R45) -/
  rxNeed : Half
  /-- RX_PDU_LEN (R46) -/
  rxPduLen : Half
  /-- FLUSH_COUNT (R47) -/
  flushCount : Word
  /-- FLUSH_POLL_MS (R48) -/
  flushPollMs : Half
  /-- PHASE (R41) -/
  phase : Phase
  /-- SUB, the hidden round state (R51) -/
  sub : Sub
  /-- TXBUF and RXBUF (R49, R50) -/
  mem : Memory
  /-- input: the level of LINK_OPEN (R44) -/
  linkOpen : Bool
  /-- input: the time input's value in this step (R37, R75) -/
  now : Word
  /-- input: the level of RESET (R260) -/
  resetAsserted : Bool
  /-- input: what the outside world does next, oldest first (R13) -/
  inputs : List Input
  /-- output: the value given back to the last host read (R65), none before the first -/
  hostData : Option Word
  /-- output: the transport calls made, oldest first (R11, R80) -/
  calls : List Call
  /-- output: the transmit stream, the bytes handed to the transport (R60) -/
  txStream : List Byte
  /-- input: the receive stream as far as the transport has delivered it (R60) -/
  rxStream : List Byte
  /-- the model's own: how many reset steps there have been; selects the unspecified buffer bytes (U1) -/
  epoch : Nat
  /-- the model's own: how many transport calls there have been; selects the free answers and times (U2, U3) -/
  draws : Nat
  deriving DecidableEq, Repr

/-- The reasons a step faults. All three are raised by a round of Machine/Rounds.lean, only in states that no run
from reset reaches (R281: "The block has no fault"); each is safe. -/
inductive Fault where
  /-- raised by a transfer round whose lengths are no non-empty range of a 260-byte buffer (R60: no rule forms such an
  index); safe -/
  | transferRange
  /-- raised by a round taken while BUSY is 1 and PHASE names no phase with rounds (R188); safe -/
  | noEnabledRound
  /-- raised at the end of a phase that the sequence of the command in LAST_OP does not hold (R187); safe -/
  | noPhaseSequence
  deriving DecidableEq, Repr

/-- The reasons the model refuses. -/
inductive Refusal where
  /-- raised by an arm of exec for an instruction without a meaning; safe -/
  | notModelled (mnemonic : String)
  /-- raised by a host access that R63 does not allow ("the model gives it no meaning and records a refusal"); safe -/
  | hostAccess
  deriving DecidableEq, Repr

/-- The machine right after reset: R54's values, no byte of the buffers written. What is no state of the block there (the
inputs, the outputs, the model's own counters) is at the value log entries 3, 4 and 5 name. -/
def State.reset : State where
  busy := false
  done := false
  coll := false
  rxValid := false
  err := .success
  endPhase := .idle
  detail := 0
  lastOp := 0
  arg := 0
  slave := 0
  budget := 0
  mark := 0
  crc := 0xFFFF
  result := 0
  txLen := 0
  txWritten := 0
  rxCount := 0
  rxNeed := 0
  rxPduLen := 0
  flushCount := 0
  flushPollMs := 0
  phase := .idle
  sub := .poll
  mem := []
  linkOpen := false
  now := 0
  resetAsserted := false
  inputs := []
  hostData := none
  calls := []
  txStream := []
  rxStream := []
  epoch := 0
  draws := 0

end Sys2Proof.Machine
end

