-- ==== Sys2Proof/Machine/Flags.lean ====
section
/-! DEFINITION. The status word and its codes (spec/10_state.md R23 to R32, R41; spec/60_exceptions.md R230). The block
has no flags but these (R53). -/

namespace Sys2Proof.Machine

/-- The PHASE and END_PHASE codes (R41). -/
def Phase.code : Phase → BitVec 4
  | .idle => 0
  | .flush => 1
  | .send => 2
  | .rxHdr => 3
  | .rxRest => 4
  | .verify => 5

/-- The STATUS.ERR codes (R230). -/
def ErrKind.code : ErrKind → BitVec 4
  | .success => 0
  | .invalidOperation => 1
  | .ioError => 2
  | .linkBroken => 3
  | .protocolError => 4
  | .timeout => 5
  | .internalError => 6
  | .configError => 7
  | .busy => 8

/-- The budget is exhausted exactly when it is not positive (spec/41_budget.md R153). -/
def State.exhausted (s : State) : Bool := decide (s.budget.toInt ≤ 0)

/-- The STATUS word (R23): LAST_OP, DETAIL, END_PHASE, ERR, EXPIRED (live, R28), RX_VALID, COLL, DONE,
BUSY, each at its bits; bits [7:5] are reserved and read 0. -/
def State.statusWord (s : State) : Word :=
  s.lastOp.setWidth 32 <<< 24 ||| s.detail.setWidth 32 <<< 16 ||| s.endPhase.code.setWidth 32 <<< 12
    ||| s.err.code.setWidth 32 <<< 8 ||| (BitVec.ofBool s.exhausted).setWidth 32 <<< 4
    ||| (BitVec.ofBool s.rxValid).setWidth 32 <<< 3 ||| (BitVec.ofBool s.coll).setWidth 32 <<< 2
    ||| (BitVec.ofBool s.done).setWidth 32 <<< 1 ||| (BitVec.ofBool s.busy).setWidth 32

end Sys2Proof.Machine
end

