-- ==== Sys2Proof/Machine/Ops.lean ====
section
/-! DEFINITION. The named operations every meaning is written over: the frame buffers, the CRC function, the charge, the
accept of a command, its completion (the one operation that records an error; the block has no exceptions to take and
nothing to return from, spec/60_exceptions.md R235, R236), the entry of a phase, ADU assembly, verification, and reset. -/

namespace Sys2Proof.Machine

abbrev Result := Host.Outcome State Fault Refusal

/-! ### The frame buffers -/

/-- The byte written at an address since reset, none if there is none. -/
def Memory.read (a : Nat) : Memory → Option Byte
  | [] => none
  | (k, v) :: m => if k = a then some v else if a < k then none else Memory.read a m

/-- Writes a byte, keeping the addresses strictly rising. -/
def Memory.write (a : Nat) (b : Byte) : Memory → Memory
  | [] => [(a, b)]
  | (k, v) :: m =>
    if a < k then (a, b) :: (k, v) :: m
    else if a = k then (a, b) :: m
    else (k, v) :: Memory.write a b m

/-- The offsets of the TXBUF window (R49). -/
def inTxWindow (a : Nat) : Bool := decide (Config.txBase ≤ a) && decide (a < Config.txBase + Config.aduMax)

/-- The offsets of the RXBUF window (R50). -/
def inRxWindow (a : Nat) : Bool := decide (Config.rxBase ≤ a) && decide (a < Config.rxBase + Config.aduMax)

/-- Every address of a list is above `a`, the addresses rise strictly, and each is an offset of a buffer window. -/
def Memory.risesFrom (a : Nat) : Memory → Bool
  | [] => true
  | (k, _) :: m => decide (a ≤ k) && (inTxWindow k || inRxWindow k) && Memory.risesFrom (k + 1) m

/-- The canonical form: addresses strictly rising, each an offset of a buffer window. An unlisted address has no value, so
no entry can equal one. -/
def Memory.wf (m : Memory) : Bool := Memory.risesFrom 0 m

/-- The byte at a buffer's window offset: what was last written there, else the unspecified byte (R54, U1). -/
def State.byteAt (s : State) (a : Nat) : Byte := (Memory.read a s.mem).getD (Config.unwrittenByte s.epoch a)

/-- Writes the byte at a buffer's window offset. -/
def State.setByte (s : State) (a : Nat) (b : Byte) : State := { s with mem := Memory.write a b s.mem }

/-- TXBUF[i] (R49, R60). -/
def State.tx (s : State) (i : Nat) : Byte := s.byteAt (Config.txBase + i)

/-- RXBUF[i] (R50, R60). -/
def State.rx (s : State) (i : Nat) : Byte := s.byteAt (Config.rxBase + i)

/-- TXBUF[i..j) (spec/00_scope.md R10). -/
def State.txBytes (s : State) (i j : Nat) : List Byte := (List.range' i (j - i)).map s.tx

/-- RXBUF[i..j) (R10). -/
def State.rxBytes (s : State) (i j : Nat) : List Byte := (List.range' i (j - i)).map s.rx

/-- Stores a byte sequence at RXBUF[i], RXBUF[i+1], ... (spec/42_framer.md R178). -/
def State.storeRx (s : State) (i : Nat) : List Byte → State
  | [] => s
  | b :: bs => State.storeRx (s.setByte (Config.rxBase + i) b) (i + 1) bs

/-! ### Named updates of single registers -/

/-- The CRC accumulator takes a value (R38). -/
def State.setCrc (s : State) (c : Half) : State := { s with crc := c }

/-- RESULT takes a value (R39). -/
def State.setResult (s : State) (r : Word) : State := { s with result := r }

/-- BUDGET takes ARG, and MARK the time (R155). -/
def State.loadBudget (s : State) : State := { s with budget := s.arg, mark := s.now }

/-- TX_LEN takes an ADU's length, and TX_WRITTEN becomes 0 (R172). -/
def State.setAdu (s : State) (len : Nat) : State := { s with txLen := BitVec.ofNat 16 len, txWritten := 0 }

/-- RX_NEED takes a length (R45). -/
def State.setRxNeed (s : State) (n : Nat) : State := { s with rxNeed := BitVec.ofNat 16 n }

/-- There is no verified frame any more (R27, R46). -/
def State.dropFrame (s : State) : State := { s with rxValid := false, rxPduLen := 0 }

/-- RXBUF holds a verified frame with a PDU of this length (R27, R46). -/
def State.validFrame (s : State) (len : Nat) : State := { s with rxValid := true, rxPduLen := BitVec.ofNat 16 len }

/-- A command that runs phases has passed its accept-time checks (R24). -/
def State.setBusy (s : State) : State := { s with busy := true }

/-- PHASE takes a phase, and SUB is POLL (R51, R176). -/
def State.atPhase (s : State) (p : Phase) : State := { s with phase := p, sub := .poll }

/-- Which transport call comes next (R51). -/
def State.setSub (s : State) (x : Sub) : State := { s with sub := x }

/-- The time input's value in this step (R75). -/
def State.setNow (s : State) (t : Word) : State := { s with now := t }

/-- The inputs still to come. -/
def State.setInputs (s : State) (l : List Input) : State := { s with inputs := l }

/-- The host gets a value back (R65). -/
def State.giveBack (s : State) (v : Word) : State := { s with hostData := some v }

/-- A host write was dropped (R26). -/
def State.setColl (s : State) : State := { s with coll := true }

/-- The transport took the first k of the bytes offered (R73, R177). -/
def State.transmit (s : State) (bytes : List Byte) (k : Nat) : State :=
  { s with txWritten := s.txWritten + BitVec.ofNat 16 k, txStream := s.txStream ++ bytes.take k }

/-- The transport delivered these bytes of the receive stream (R72). -/
def State.deliver (s : State) (bytes : List Byte) : State := { s with rxStream := s.rxStream ++ bytes }

/-- RX_COUNT rises by a number of bytes (R43, R178). -/
def State.addRxCount (s : State) (n : Nat) : State := { s with rxCount := s.rxCount + BitVec.ofNat 16 n }

/-- FLUSH_COUNT rises by a number of bytes, modulo 2^32 (R47, R179). -/
def State.addFlushCount (s : State) (n : Nat) : State := { s with flushCount := s.flushCount + BitVec.ofNat 32 n }

/-- The received bytes are stored after those already there, and counted (R178). -/
def State.receive (s : State) (bytes : List Byte) : State := (s.storeRx s.rxCount.toNat bytes).addRxCount bytes.length

/-! ### The CRC function (spec/40_crc.md R130) -/

/-- One of the 8 iterations: shift right, and XOR with the polynomial when the low bit was 1. -/
def crcShift (acc : Half) : Half := if acc.getLsbD 0 then (acc >>> 1) ^^^ Config.crcPoly else acc >>> 1

/-- `crcShift` a number of times. -/
def crcShifts : Nat → Half → Half
  | 0, acc => acc
  | k + 1, acc => crcShifts k (crcShift acc)

/-- crc_byte: XOR the byte into the low byte, then 8 iterations. -/
def crcByte (acc : Half) (b : Byte) : Half := crcShifts 8 (acc ^^^ b.setWidth 16)

/-- crc16 of a byte sequence. -/
def crc16 (bytes : List Byte) : Half := bytes.foldl crcByte Config.crcInit

/-- c[7:0], the byte sent first (spec/20_memory.md R61). -/
def crcLo (c : Half) : Byte := c.extractLsb' 0 8

/-- c[15:8], the byte sent second (R61). -/
def crcHi (c : Half) : Byte := c.extractLsb' 8 8

/-! ### The budget (spec/41_budget.md) -/

/-- clamp32 (R152): only the lower bound can be passed. -/
def clamp32 (v : Int) : Int := if v < -(2 ^ 31) then -(2 ^ 31) else v

/-- The milliseconds since MARK, modulo 2^32 (R151). -/
def State.elapsed (s : State) : Nat := (s.now - s.mark).toNat

/-- charge() (R151): subtract the elapsed time from the budget, and mark the time. -/
def State.charge (s : State) : State :=
  { s with budget := BitVec.ofInt 32 (clamp32 (s.budget.toInt - s.elapsed)), mark := s.now }

/-- A transport call, and the charge that follows it in the same step, before its answer is looked at (R158). -/
def State.call (s : State) (c : Call) : State :=
  State.charge { s with calls := s.calls ++ [c], draws := s.draws + 1 }

/-! ### Accept and completion (spec/60_exceptions.md) -/

/-- The commands whose accept clears RX_VALID and RX_PDU_LEN (R27, R46). -/
def receiveOps : List Byte := [Opcode.frameVerify, Opcode.frameRecv, Opcode.frameXact]

/-- The start of an accept (R233): the status fields are cleared and the opcode recorded. The accept of FRAME.VERIFY, FRAME.RECV
and FRAME.XACT leaves no verified frame, whatever check fails after it (R27, R46, R191, R275, decision D16; log entry 10). -/
def State.accept (s : State) (op : Byte) : State :=
  { s with
    done := false, coll := false, err := .success, detail := 0, endPhase := .idle, lastOp := op
    rxValid := if op ∈ receiveOps then false else s.rxValid
    rxPduLen := if op ∈ receiveOps then 0 else s.rxPduLen }

/-- finish(kind, detail) (R235): the command ends in this step, and nothing is rolled back. -/
def State.finish (s : State) (kind : ErrKind) (detail : Byte) : State :=
  { s with err := kind, detail := detail, endPhase := s.phase, phase := .idle, sub := .poll, busy := false, done := true }

/-- finish(OK) (R235). -/
def State.finishOk (s : State) : State := s.finish .success 0

/-! ### Phases (spec/42_framer.md) -/

/-- What the entry of a phase sets once the budget check has passed (R176). -/
def State.beginPhase (s : State) (p : Phase) : State :=
  match p with
  | .flush => { s with flushCount := 0 }
  | .send => { s with txWritten := 0 }
  | .rxHdr => State.setRxNeed { s with rxCount := 0 } Config.hdrLen
  | .idle | .rxRest | .verify => s

/-- enter(p) (R176): no phase starts with an exhausted budget. -/
def State.enter (s : State) (p : Phase) : State :=
  let s := s.atPhase p
  if s.exhausted then s.finish .timeout 1 else s.beginPhase p

/-- build_adu(n) (R172): the slave id, the CRC over id and PDU, low byte first. -/
def State.buildAdu (s : State) (n : Nat) : State :=
  let s := s.setByte Config.txBase s.slave
  let c := crc16 (s.txBytes 0 (n + 1))
  let s := (s.setByte (Config.txBase + (n + 1)) (crcLo c)).setByte (Config.txBase + (n + 2)) (crcHi c)
  (s.setCrc c).setAdu (n + 3)

/-- The CRC check of verification (R180): the last two of n bytes are the CRC of those before them, low byte first. -/
def State.rxCrcMatches (s : State) (n : Nat) : Bool :=
  let c := crc16 (s.rxBytes 0 (n - 2))
  s.rx (n - 2) == crcLo c && s.rx (n - 1) == crcHi c

/-- verify(n) (R180): the slave id first, then the CRC; on success the PDU is valid in place. -/
def State.verify (s : State) (n : Nat) : State :=
  let s := s.atPhase .verify
  if s.rx 0 ≠ s.slave then s.finish .protocolError 3
  else
    let s := s.setCrc (crc16 (s.rxBytes 0 (n - 2)))
    if s.rxCrcMatches n then (s.validFrame (n - 3)).finishOk else s.finish .protocolError 4

/-! ### Reset (spec/70_reset_and_hazards.md R260) -/

/-- Every piece of the block's state takes its reset value; the inputs, and what was already driven out, stay. The
buffers hold new unspecified bytes (U1). -/
def State.resetBlock (s : State) : State :=
  { State.reset with
    linkOpen := s.linkOpen, now := s.now, resetAsserted := s.resetAsserted, inputs := s.inputs, hostData := s.hostData,
    calls := s.calls, txStream := s.txStream, rxStream := s.rxStream, epoch := s.epoch + 1, draws := s.draws }

end Sys2Proof.Machine
end

