-- ==== Sys2Proof/Machine/Operands.lean ====
section
/-! DEFINITION. The operand forms of the commands (the N16 range of spec/30_encoding.md R113, the link and length checks of
spec/42_framer.md R170), the response length classes (R95, R173), and the end of a received header (R183). -/

namespace Sys2Proof.Machine

/-- The N16 form (R113, R233): a length outside its legal range completes with InvalidOperation, detail 3. -/
def withLength (lo hi : Nat) (n : Half) (s : State) (body : Nat → State → State) : State :=
  if lo ≤ n.toNat ∧ n.toNat ≤ hi then body n.toNat s else s.finish .invalidOperation 3

/-- The link check of a transport command (R170 (4)): InvalidOperation, detail 4. -/
def withLink (s : State) (body : State → State) : State :=
  if s.linkOpen then body s else s.finish .invalidOperation 4

/-- The check of FRAME.SEND (R170 (5)): no ADU has been built, InvalidOperation, detail 5. -/
def withAdu (s : State) (body : State → State) : State :=
  if s.txLen = 0 then s.finish .invalidOperation 5 else body s

/-- The classes of R95. -/
inductive RespClass where
  | exception
  | byteCount
  | fixed (len : Nat)
  | unsupported
  deriving DecidableEq, Repr

/-- What find_pdu_length answers (R173). -/
inductive PduLength where
  | ok (len : Nat)
  | unsupported
  | outOfRange
  deriving DecidableEq, Repr

/-- The function codes of class BC (R95). -/
def byteCountCodes : List Byte := [0x01, 0x02, 0x03, 0x04, 0x0C, 0x14, 0x17, 0x18]

/-- The function codes of class FIX with length 5 (R95). -/
def fixedFiveCodes : List Byte := [0x0F, 0x10, 0x05, 0x06, 0x0B, 0x11, 0x08]

/-- class(fc) (R95): bit 7 first. -/
def respClass (fc : Byte) : RespClass :=
  if fc.msb then .exception
  else if fc ∈ byteCountCodes then .byteCount
  else if fc ∈ fixedFiveCodes then .fixed 5
  else if fc = 0x16 then .fixed 7
  else .unsupported

/-- Class BC's length 2 + bc, and its range check (R97, R174). -/
def byteCountLength (bc : Byte) : PduLength :=
  let len := 2 + bc.toNat
  if 0 < len ∧ len ≤ Config.pduMax then .ok len else .outOfRange

/-- find_pdu_length(fc, bc) (R173). -/
def findPduLength (fc bc : Byte) : PduLength :=
  match respClass fc with
  | .exception => .ok 2
  | .byteCount => byteCountLength bc
  | .fixed len => .ok len
  | .unsupported => .unsupported

/-- The end of the header, once its length is inferred (R183). -/
def headerEnd (len : PduLength) (s : State) : State :=
  match len with
  | .unsupported => s.finish .protocolError 1
  | .outOfRange => s.finish .protocolError 2
  | .ok l => (s.setRxNeed (l + 3)).enter .rxRest

end Sys2Proof.Machine
end

