-- ==== Sys2Proof/Machine/Budget.lean ====
section
/-! DEFINITION. The meanings of the budget tracker's commands (spec/41_budget.md R155, R156). -/

namespace Sys2Proof.Machine

/-- BUDGET.LOAD (R155): any value is accepted, and NOW is sampled. -/
def execBudgetLoad (s : State) : Result :=
  .next (s.accept Opcode.budgetLoad).loadBudget.finishOk

/-- BUDGET.CHARGE (R156): an exhausted budget is no error of this command. -/
def execBudgetCharge (s : State) : Result :=
  .next (s.accept Opcode.budgetCharge).charge.finishOk

end Sys2Proof.Machine
end

