-- ==== Sys2Proof/Machine/Crc.lean ====
section
/-! DEFINITION. The meanings of the CRC Engine's commands (spec/40_crc.md R131 to R134). -/

namespace Sys2Proof.Machine

/-- CRC.INIT (R131). -/
def execCrcInit (s : State) : Result :=
  .next ((s.accept Opcode.crcInit).setCrc Config.crcInit).finishOk

/-- CRC.BYTE b (R132): the accumulator is not re-initialised. -/
def execCrcByte (b : Byte) (s : State) : Result :=
  .next ((s.accept Opcode.crcByte).setCrc (crcByte s.crc b)).finishOk

/-- CRC.TXBUF n (R133). -/
def execCrcTxbuf (n : Half) (s : State) : Result :=
  .next (withLength 0 Config.aduMax n (s.accept Opcode.crcTxbuf) fun n s =>
    (s.setCrc (crc16 (s.txBytes 0 n))).finishOk)

/-- CRC.RXBUF n (R134). -/
def execCrcRxbuf (n : Half) (s : State) : Result :=
  .next (withLength 0 Config.aduMax n (s.accept Opcode.crcRxbuf) fun n s =>
    (s.setCrc (crc16 (s.rxBytes 0 n))).finishOk)

end Sys2Proof.Machine
end

