-- ==== Sys2Proof/Machine/Frame.lean ====
section
/-! DEFINITION. The meanings of the RTU Framer's commands: what each does in the step that accepts it (spec/42_framer.md R171,
R175, R181, R182, R184, R185, R186). The rounds of the four phase commands are in Machine/Rounds.lean. -/

namespace Sys2Proof.Machine

/-- FRAME.BUILD n (R171). -/
def execFrameBuild (n : Half) (s : State) : Result :=
  .next (withLength 1 Config.pduMax n (s.accept Opcode.frameBuild) fun n s => (s.buildAdu n).finishOk)

/-- FRAME.PDULEN fc, bc (R175): RESULT is the inferred length, 0 when there is none. -/
def execFramePdulen (fc bc : Byte) (s : State) : Result :=
  let s := s.accept Opcode.framePdulen
  match findPduLength fc bc with
  | .ok len => .next ((s.setResult (BitVec.ofNat 32 len)).finishOk)
  | .unsupported => .next ((s.setResult 0).finish .protocolError 1)
  | .outOfRange => .next ((s.setResult 0).finish .protocolError 2)

/-- FRAME.VERIFY n (R185): neither the link nor the budget is used, and RX_COUNT is not written. -/
def execFrameVerify (n : Half) (s : State) : Result :=
  .next (withLength 4 256 n (s.accept Opcode.frameVerify) fun n s =>
    (s.dropFrame.setRxNeed n).verify n)

/-- FRAME.FLUSH (R181). -/
def execFrameFlush (s : State) : Result :=
  .next (withLink (s.accept Opcode.frameFlush) fun s => s.setBusy.enter .flush)

/-- FRAME.SEND (R182): the link check comes before the TX_LEN check (R170). -/
def execFrameSend (s : State) : Result :=
  .next (withLink (s.accept Opcode.frameSend) fun s => withAdu s fun s => s.setBusy.enter .send)

/-- FRAME.RECV (R184). -/
def execFrameRecv (s : State) : Result :=
  .next (withLink (s.accept Opcode.frameRecv) fun s =>
    s.dropFrame.setBusy.enter .rxHdr)

/-- FRAME.XACT n (R186): the ADU is built before the first phase's budget check. -/
def execFrameXact (n : Half) (s : State) : Result :=
  .next (withLength 1 Config.pduMax n (s.accept Opcode.frameXact) fun n s => withLink s fun s =>
    (s.buildAdu n).dropFrame.setBusy.enter .flush)

end Sys2Proof.Machine
end

