-- ==== Sys2Proof/Machine/Response.lean ====
section
/-! DEFINITION. The meanings of the 129 response-header rows: what the framer does, in the step that completes a received
header, with the function code of ADU byte 1 (spec/42_framer.md R183, through R173 and the classes of spec/30_encoding.md
R95). Each row has a definition of its own over the shared operation headerEnd. -/

namespace Sys2Proof.Machine

/-- RESP.EXC (R93, R173): an exception response has a PDU of 2 bytes, whatever its low bits and its exception code. -/
def execRespExc (_low : BitVec 7) (_b2 : Byte) (s : State) : Result := .next (headerEnd (.ok 2) s)

/-- RESP.BC.01 (R95, R97): class BC. -/
def execRespBc01 (bc : Byte) (s : State) : Result := .next (headerEnd (byteCountLength bc) s)

/-- RESP.BC.02 (R95, R97): class BC. -/
def execRespBc02 (bc : Byte) (s : State) : Result := .next (headerEnd (byteCountLength bc) s)

/-- RESP.BC.03 (R95, R97): class BC. -/
def execRespBc03 (bc : Byte) (s : State) : Result := .next (headerEnd (byteCountLength bc) s)

/-- RESP.BC.04 (R95, R97): class BC. -/
def execRespBc04 (bc : Byte) (s : State) : Result := .next (headerEnd (byteCountLength bc) s)

/-- RESP.BC.0C (R95, R97): class BC. -/
def execRespBc0C (bc : Byte) (s : State) : Result := .next (headerEnd (byteCountLength bc) s)

/-- RESP.BC.14 (R95, R97): class BC. -/
def execRespBc14 (bc : Byte) (s : State) : Result := .next (headerEnd (byteCountLength bc) s)

/-- RESP.BC.17 (R95, R97): class BC. -/
def execRespBc17 (bc : Byte) (s : State) : Result := .next (headerEnd (byteCountLength bc) s)

/-- RESP.BC.18 (R95, R97): class BC. -/
def execRespBc18 (bc : Byte) (s : State) : Result := .next (headerEnd (byteCountLength bc) s)

/-- RESP.FIX.0F (R95): class FIX(5). -/
def execRespFix0F (_b2 : Byte) (s : State) : Result := .next (headerEnd (.ok 5) s)

/-- RESP.FIX.10 (R95): class FIX(5). -/
def execRespFix10 (_b2 : Byte) (s : State) : Result := .next (headerEnd (.ok 5) s)

/-- RESP.FIX.05 (R95): class FIX(5). -/
def execRespFix05 (_b2 : Byte) (s : State) : Result := .next (headerEnd (.ok 5) s)

/-- RESP.FIX.06 (R95): class FIX(5). -/
def execRespFix06 (_b2 : Byte) (s : State) : Result := .next (headerEnd (.ok 5) s)

/-- RESP.FIX.16 (R95): class FIX(7). -/
def execRespFix16 (_b2 : Byte) (s : State) : Result := .next (headerEnd (.ok 7) s)

/-- RESP.FIX.0B (R95): class FIX(5). -/
def execRespFix0B (_b2 : Byte) (s : State) : Result := .next (headerEnd (.ok 5) s)

/-- RESP.FIX.11 (R95): class FIX(5). -/
def execRespFix11 (_b2 : Byte) (s : State) : Result := .next (headerEnd (.ok 5) s)

/-- RESP.FIX.08 (R95): class FIX(5). -/
def execRespFix08 (_b2 : Byte) (s : State) : Result := .next (headerEnd (.ok 5) s)

/-- RESP.UNSUP.00 (R95): class UNSUP. -/
def execRespUnsup00 (_b2 : Byte) (s : State) : Result := .next (headerEnd .unsupported s)

/-- RESP.UNSUP.07 (R95): class UNSUP. -/
def execRespUnsup07 (_b2 : Byte) (s : State) : Result := .next (headerEnd .unsupported s)

/-- RESP.UNSUP.09 (R95): class UNSUP. -/
def execRespUnsup09 (_b2 : Byte) (s : State) : Result := .next (headerEnd .unsupported s)

/-- RESP.UNSUP.0A (R95): class UNSUP. -/
def execRespUnsup0A (_b2 : Byte) (s : State) : Result := .next (headerEnd .unsupported s)

/-- RESP.UNSUP.0D (R95): class UNSUP. -/
def execRespUnsup0D (_b2 : Byte) (s : State) : Result := .next (headerEnd .unsupported s)

/-- RESP.UNSUP.0E (R95): class UNSUP. -/
def execRespUnsup0E (_b2 : Byte) (s : State) : Result := .next (headerEnd .unsupported s)

/-- RESP.UNSUP.12 (R95): class UNSUP. -/
def execRespUnsup12 (_b2 : Byte) (s : State) : Result := .next (headerEnd .unsupported s)

/-- RESP.UNSUP.13 (R95): class UNSUP. -/
def execRespUnsup13 (_b2 : Byte) (s : State) : Result := .next (headerEnd .unsupported s)

/-- RESP.UNSUP.15 (R95): class UNSUP. -/
def execRespUnsup15 (_b2 : Byte) (s : State) : Result := .next (headerEnd .unsupported s)

/-- RESP.UNSUP.19 (R95): class UNSUP. -/
def execRespUnsup19 (_b2 : Byte) (s : State) : Result := .next (headerEnd .unsupported s)

/-- RESP.UNSUP.1A (R95): class UNSUP. -/
def execRespUnsup1A (_b2 : Byte) (s : State) : Result := .next (headerEnd .unsupported s)

/-- RESP.UNSUP.1B (R95): class UNSUP. -/
def execRespUnsup1B (_b2 : Byte) (s : State) : Result := .next (headerEnd .unsupported s)

/-- RESP.UNSUP.1C (R95): class UNSUP. -/
def execRespUnsup1C (_b2 : Byte) (s : State) : Result := .next (headerEnd .unsupported s)

/-- RESP.UNSUP.1D (R95): class UNSUP. -/
def execRespUnsup1D (_b2 : Byte) (s : State) : Result := .next (headerEnd .unsupported s)

/-- RESP.UNSUP.1E (R95): class UNSUP. -/
def execRespUnsup1E (_b2 : Byte) (s : State) : Result := .next (headerEnd .unsupported s)

/-- RESP.UNSUP.1F (R95): class UNSUP. -/
def execRespUnsup1F (_b2 : Byte) (s : State) : Result := .next (headerEnd .unsupported s)

/-- RESP.UNSUP.20 (R95): class UNSUP. -/
def execRespUnsup20 (_b2 : Byte) (s : State) : Result := .next (headerEnd .unsupported s)

/-- RESP.UNSUP.21 (R95): class UNSUP. -/
def execRespUnsup21 (_b2 : Byte) (s : State) : Result := .next (headerEnd .unsupported s)

/-- RESP.UNSUP.22 (R95): class UNSUP. -/
def execRespUnsup22 (_b2 : Byte) (s : State) : Result := .next (headerEnd .unsupported s)

/-- RESP.UNSUP.23 (R95): class UNSUP. -/
def execRespUnsup23 (_b2 : Byte) (s : State) : Result := .next (headerEnd .unsupported s)

/-- RESP.UNSUP.24 (R95): class UNSUP. -/
def execRespUnsup24 (_b2 : Byte) (s : State) : Result := .next (headerEnd .unsupported s)

/-- RESP.UNSUP.25 (R95): class UNSUP. -/
def execRespUnsup25 (_b2 : Byte) (s : State) : Result := .next (headerEnd .unsupported s)

/-- RESP.UNSUP.26 (R95): class UNSUP. -/
def execRespUnsup26 (_b2 : Byte) (s : State) : Result := .next (headerEnd .unsupported s)

/-- RESP.UNSUP.27 (R95): class UNSUP. -/
def execRespUnsup27 (_b2 : Byte) (s : State) : Result := .next (headerEnd .unsupported s)

/-- RESP.UNSUP.28 (R95): class UNSUP. -/
def execRespUnsup28 (_b2 : Byte) (s : State) : Result := .next (headerEnd .unsupported s)

/-- RESP.UNSUP.29 (R95): class UNSUP. -/
def execRespUnsup29 (_b2 : Byte) (s : State) : Result := .next (headerEnd .unsupported s)

/-- RESP.UNSUP.2A (R95): class UNSUP. -/
def execRespUnsup2A (_b2 : Byte) (s : State) : Result := .next (headerEnd .unsupported s)

/-- RESP.UNSUP.2B (R95): class UNSUP. -/
def execRespUnsup2B (_b2 : Byte) (s : State) : Result := .next (headerEnd .unsupported s)

/-- RESP.UNSUP.2C (R95): class UNSUP. -/
def execRespUnsup2C (_b2 : Byte) (s : State) : Result := .next (headerEnd .unsupported s)

/-- RESP.UNSUP.2D (R95): class UNSUP. -/
def execRespUnsup2D (_b2 : Byte) (s : State) : Result := .next (headerEnd .unsupported s)

/-- RESP.UNSUP.2E (R95): class UNSUP. -/
def execRespUnsup2E (_b2 : Byte) (s : State) : Result := .next (headerEnd .unsupported s)

/-- RESP.UNSUP.2F (R95): class UNSUP. -/
def execRespUnsup2F (_b2 : Byte) (s : State) : Result := .next (headerEnd .unsupported s)

/-- RESP.UNSUP.30 (R95): class UNSUP. -/
def execRespUnsup30 (_b2 : Byte) (s : State) : Result := .next (headerEnd .unsupported s)

/-- RESP.UNSUP.31 (R95): class UNSUP. -/
def execRespUnsup31 (_b2 : Byte) (s : State) : Result := .next (headerEnd .unsupported s)

/-- RESP.UNSUP.32 (R95): class UNSUP. -/
def execRespUnsup32 (_b2 : Byte) (s : State) : Result := .next (headerEnd .unsupported s)

/-- RESP.UNSUP.33 (R95): class UNSUP. -/
def execRespUnsup33 (_b2 : Byte) (s : State) : Result := .next (headerEnd .unsupported s)

/-- RESP.UNSUP.34 (R95): class UNSUP. -/
def execRespUnsup34 (_b2 : Byte) (s : State) : Result := .next (headerEnd .unsupported s)

/-- RESP.UNSUP.35 (R95): class UNSUP. -/
def execRespUnsup35 (_b2 : Byte) (s : State) : Result := .next (headerEnd .unsupported s)

/-- RESP.UNSUP.36 (R95): class UNSUP. -/
def execRespUnsup36 (_b2 : Byte) (s : State) : Result := .next (headerEnd .unsupported s)

/-- RESP.UNSUP.37 (R95): class UNSUP. -/
def execRespUnsup37 (_b2 : Byte) (s : State) : Result := .next (headerEnd .unsupported s)

/-- RESP.UNSUP.38 (R95): class UNSUP. -/
def execRespUnsup38 (_b2 : Byte) (s : State) : Result := .next (headerEnd .unsupported s)

/-- RESP.UNSUP.39 (R95): class UNSUP. -/
def execRespUnsup39 (_b2 : Byte) (s : State) : Result := .next (headerEnd .unsupported s)

/-- RESP.UNSUP.3A (R95): class UNSUP. -/
def execRespUnsup3A (_b2 : Byte) (s : State) : Result := .next (headerEnd .unsupported s)

/-- RESP.UNSUP.3B (R95): class UNSUP. -/
def execRespUnsup3B (_b2 : Byte) (s : State) : Result := .next (headerEnd .unsupported s)

/-- RESP.UNSUP.3C (R95): class UNSUP. -/
def execRespUnsup3C (_b2 : Byte) (s : State) : Result := .next (headerEnd .unsupported s)

/-- RESP.UNSUP.3D (R95): class UNSUP. -/
def execRespUnsup3D (_b2 : Byte) (s : State) : Result := .next (headerEnd .unsupported s)

/-- RESP.UNSUP.3E (R95): class UNSUP. -/
def execRespUnsup3E (_b2 : Byte) (s : State) : Result := .next (headerEnd .unsupported s)

/-- RESP.UNSUP.3F (R95): class UNSUP. -/
def execRespUnsup3F (_b2 : Byte) (s : State) : Result := .next (headerEnd .unsupported s)

/-- RESP.UNSUP.40 (R95): class UNSUP. -/
def execRespUnsup40 (_b2 : Byte) (s : State) : Result := .next (headerEnd .unsupported s)

/-- RESP.UNSUP.41 (R95): class UNSUP. -/
def execRespUnsup41 (_b2 : Byte) (s : State) : Result := .next (headerEnd .unsupported s)

/-- RESP.UNSUP.42 (R95): class UNSUP. -/
def execRespUnsup42 (_b2 : Byte) (s : State) : Result := .next (headerEnd .unsupported s)

/-- RESP.UNSUP.43 (R95): class UNSUP. -/
def execRespUnsup43 (_b2 : Byte) (s : State) : Result := .next (headerEnd .unsupported s)

/-- RESP.UNSUP.44 (R95): class UNSUP. -/
def execRespUnsup44 (_b2 : Byte) (s : State) : Result := .next (headerEnd .unsupported s)

/-- RESP.UNSUP.45 (R95): class UNSUP. -/
def execRespUnsup45 (_b2 : Byte) (s : State) : Result := .next (headerEnd .unsupported s)

/-- RESP.UNSUP.46 (R95): class UNSUP. -/
def execRespUnsup46 (_b2 : Byte) (s : State) : Result := .next (headerEnd .unsupported s)

/-- RESP.UNSUP.47 (R95): class UNSUP. -/
def execRespUnsup47 (_b2 : Byte) (s : State) : Result := .next (headerEnd .unsupported s)

/-- RESP.UNSUP.48 (R95): class UNSUP. -/
def execRespUnsup48 (_b2 : Byte) (s : State) : Result := .next (headerEnd .unsupported s)

/-- RESP.UNSUP.49 (R95): class UNSUP. -/
def execRespUnsup49 (_b2 : Byte) (s : State) : Result := .next (headerEnd .unsupported s)

/-- RESP.UNSUP.4A (R95): class UNSUP. -/
def execRespUnsup4A (_b2 : Byte) (s : State) : Result := .next (headerEnd .unsupported s)

/-- RESP.UNSUP.4B (R95): class UNSUP. -/
def execRespUnsup4B (_b2 : Byte) (s : State) : Result := .next (headerEnd .unsupported s)

/-- RESP.UNSUP.4C (R95): class UNSUP. -/
def execRespUnsup4C (_b2 : Byte) (s : State) : Result := .next (headerEnd .unsupported s)

/-- RESP.UNSUP.4D (R95): class UNSUP. -/
def execRespUnsup4D (_b2 : Byte) (s : State) : Result := .next (headerEnd .unsupported s)

/-- RESP.UNSUP.4E (R95): class UNSUP. -/
def execRespUnsup4E (_b2 : Byte) (s : State) : Result := .next (headerEnd .unsupported s)

/-- RESP.UNSUP.4F (R95): class UNSUP. -/
def execRespUnsup4F (_b2 : Byte) (s : State) : Result := .next (headerEnd .unsupported s)

/-- RESP.UNSUP.50 (R95): class UNSUP. -/
def execRespUnsup50 (_b2 : Byte) (s : State) : Result := .next (headerEnd .unsupported s)

/-- RESP.UNSUP.51 (R95): class UNSUP. -/
def execRespUnsup51 (_b2 : Byte) (s : State) : Result := .next (headerEnd .unsupported s)

/-- RESP.UNSUP.52 (R95): class UNSUP. -/
def execRespUnsup52 (_b2 : Byte) (s : State) : Result := .next (headerEnd .unsupported s)

/-- RESP.UNSUP.53 (R95): class UNSUP. -/
def execRespUnsup53 (_b2 : Byte) (s : State) : Result := .next (headerEnd .unsupported s)

/-- RESP.UNSUP.54 (R95): class UNSUP. -/
def execRespUnsup54 (_b2 : Byte) (s : State) : Result := .next (headerEnd .unsupported s)

/-- RESP.UNSUP.55 (R95): class UNSUP. -/
def execRespUnsup55 (_b2 : Byte) (s : State) : Result := .next (headerEnd .unsupported s)

/-- RESP.UNSUP.56 (R95): class UNSUP. -/
def execRespUnsup56 (_b2 : Byte) (s : State) : Result := .next (headerEnd .unsupported s)

/-- RESP.UNSUP.57 (R95): class UNSUP. -/
def execRespUnsup57 (_b2 : Byte) (s : State) : Result := .next (headerEnd .unsupported s)

/-- RESP.UNSUP.58 (R95): class UNSUP. -/
def execRespUnsup58 (_b2 : Byte) (s : State) : Result := .next (headerEnd .unsupported s)

/-- RESP.UNSUP.59 (R95): class UNSUP. -/
def execRespUnsup59 (_b2 : Byte) (s : State) : Result := .next (headerEnd .unsupported s)

/-- RESP.UNSUP.5A (R95): class UNSUP. -/
def execRespUnsup5A (_b2 : Byte) (s : State) : Result := .next (headerEnd .unsupported s)

/-- RESP.UNSUP.5B (R95): class UNSUP. -/
def execRespUnsup5B (_b2 : Byte) (s : State) : Result := .next (headerEnd .unsupported s)

/-- RESP.UNSUP.5C (R95): class UNSUP. -/
def execRespUnsup5C (_b2 : Byte) (s : State) : Result := .next (headerEnd .unsupported s)

/-- RESP.UNSUP.5D (R95): class UNSUP. -/
def execRespUnsup5D (_b2 : Byte) (s : State) : Result := .next (headerEnd .unsupported s)

/-- RESP.UNSUP.5E (R95): class UNSUP. -/
def execRespUnsup5E (_b2 : Byte) (s : State) : Result := .next (headerEnd .unsupported s)

/-- RESP.UNSUP.5F (R95): class UNSUP. -/
def execRespUnsup5F (_b2 : Byte) (s : State) : Result := .next (headerEnd .unsupported s)

/-- RESP.UNSUP.60 (R95): class UNSUP. -/
def execRespUnsup60 (_b2 : Byte) (s : State) : Result := .next (headerEnd .unsupported s)

/-- RESP.UNSUP.61 (R95): class UNSUP. -/
def execRespUnsup61 (_b2 : Byte) (s : State) : Result := .next (headerEnd .unsupported s)

/-- RESP.UNSUP.62 (R95): class UNSUP. -/
def execRespUnsup62 (_b2 : Byte) (s : State) : Result := .next (headerEnd .unsupported s)

/-- RESP.UNSUP.63 (R95): class UNSUP. -/
def execRespUnsup63 (_b2 : Byte) (s : State) : Result := .next (headerEnd .unsupported s)

/-- RESP.UNSUP.64 (R95): class UNSUP. -/
def execRespUnsup64 (_b2 : Byte) (s : State) : Result := .next (headerEnd .unsupported s)

/-- RESP.UNSUP.65 (R95): class UNSUP. -/
def execRespUnsup65 (_b2 : Byte) (s : State) : Result := .next (headerEnd .unsupported s)

/-- RESP.UNSUP.66 (R95): class UNSUP. -/
def execRespUnsup66 (_b2 : Byte) (s : State) : Result := .next (headerEnd .unsupported s)

/-- RESP.UNSUP.67 (R95): class UNSUP. -/
def execRespUnsup67 (_b2 : Byte) (s : State) : Result := .next (headerEnd .unsupported s)

/-- RESP.UNSUP.68 (R95): class UNSUP. -/
def execRespUnsup68 (_b2 : Byte) (s : State) : Result := .next (headerEnd .unsupported s)

/-- RESP.UNSUP.69 (R95): class UNSUP. -/
def execRespUnsup69 (_b2 : Byte) (s : State) : Result := .next (headerEnd .unsupported s)

/-- RESP.UNSUP.6A (R95): class UNSUP. -/
def execRespUnsup6A (_b2 : Byte) (s : State) : Result := .next (headerEnd .unsupported s)

/-- RESP.UNSUP.6B (R95): class UNSUP. -/
def execRespUnsup6B (_b2 : Byte) (s : State) : Result := .next (headerEnd .unsupported s)

/-- RESP.UNSUP.6C (R95): class UNSUP. -/
def execRespUnsup6C (_b2 : Byte) (s : State) : Result := .next (headerEnd .unsupported s)

/-- RESP.UNSUP.6D (R95): class UNSUP. -/
def execRespUnsup6D (_b2 : Byte) (s : State) : Result := .next (headerEnd .unsupported s)

/-- RESP.UNSUP.6E (R95): class UNSUP. -/
def execRespUnsup6E (_b2 : Byte) (s : State) : Result := .next (headerEnd .unsupported s)

/-- RESP.UNSUP.6F (R95): class UNSUP. -/
def execRespUnsup6F (_b2 : Byte) (s : State) : Result := .next (headerEnd .unsupported s)

/-- RESP.UNSUP.70 (R95): class UNSUP. -/
def execRespUnsup70 (_b2 : Byte) (s : State) : Result := .next (headerEnd .unsupported s)

/-- RESP.UNSUP.71 (R95): class UNSUP. -/
def execRespUnsup71 (_b2 : Byte) (s : State) : Result := .next (headerEnd .unsupported s)

/-- RESP.UNSUP.72 (R95): class UNSUP. -/
def execRespUnsup72 (_b2 : Byte) (s : State) : Result := .next (headerEnd .unsupported s)

/-- RESP.UNSUP.73 (R95): class UNSUP. -/
def execRespUnsup73 (_b2 : Byte) (s : State) : Result := .next (headerEnd .unsupported s)

/-- RESP.UNSUP.74 (R95): class UNSUP. -/
def execRespUnsup74 (_b2 : Byte) (s : State) : Result := .next (headerEnd .unsupported s)

/-- RESP.UNSUP.75 (R95): class UNSUP. -/
def execRespUnsup75 (_b2 : Byte) (s : State) : Result := .next (headerEnd .unsupported s)

/-- RESP.UNSUP.76 (R95): class UNSUP. -/
def execRespUnsup76 (_b2 : Byte) (s : State) : Result := .next (headerEnd .unsupported s)

/-- RESP.UNSUP.77 (R95): class UNSUP. -/
def execRespUnsup77 (_b2 : Byte) (s : State) : Result := .next (headerEnd .unsupported s)

/-- RESP.UNSUP.78 (R95): class UNSUP. -/
def execRespUnsup78 (_b2 : Byte) (s : State) : Result := .next (headerEnd .unsupported s)

/-- RESP.UNSUP.79 (R95): class UNSUP. -/
def execRespUnsup79 (_b2 : Byte) (s : State) : Result := .next (headerEnd .unsupported s)

/-- RESP.UNSUP.7A (R95): class UNSUP. -/
def execRespUnsup7A (_b2 : Byte) (s : State) : Result := .next (headerEnd .unsupported s)

/-- RESP.UNSUP.7B (R95): class UNSUP. -/
def execRespUnsup7B (_b2 : Byte) (s : State) : Result := .next (headerEnd .unsupported s)

/-- RESP.UNSUP.7C (R95): class UNSUP. -/
def execRespUnsup7C (_b2 : Byte) (s : State) : Result := .next (headerEnd .unsupported s)

/-- RESP.UNSUP.7D (R95): class UNSUP. -/
def execRespUnsup7D (_b2 : Byte) (s : State) : Result := .next (headerEnd .unsupported s)

/-- RESP.UNSUP.7E (R95): class UNSUP. -/
def execRespUnsup7E (_b2 : Byte) (s : State) : Result := .next (headerEnd .unsupported s)

/-- RESP.UNSUP.7F (R95): class UNSUP. -/
def execRespUnsup7F (_b2 : Byte) (s : State) : Result := .next (headerEnd .unsupported s)

end Sys2Proof.Machine
end

