-- ==== Sys2Proof/Machine/Dispatch.lean ====
section
/-! DEFINITION. One arm per constructor of Instr: which meaning runs it. -/

namespace Sys2Proof.Machine

def exec (i : Instr) (s : State) : Host.Outcome State Fault Refusal :=
  match i with
  | .crcInit => Sys2Proof.Machine.execCrcInit s
  | .crcByte b => Sys2Proof.Machine.execCrcByte b s
  | .crcTxbuf n => Sys2Proof.Machine.execCrcTxbuf n s
  | .crcRxbuf n => Sys2Proof.Machine.execCrcRxbuf n s
  | .budgetLoad => Sys2Proof.Machine.execBudgetLoad s
  | .budgetCharge => Sys2Proof.Machine.execBudgetCharge s
  | .frameBuild n => Sys2Proof.Machine.execFrameBuild n s
  | .framePdulen fc bc => Sys2Proof.Machine.execFramePdulen fc bc s
  | .frameVerify n => Sys2Proof.Machine.execFrameVerify n s
  | .frameFlush => Sys2Proof.Machine.execFrameFlush s
  | .frameSend => Sys2Proof.Machine.execFrameSend s
  | .frameRecv => Sys2Proof.Machine.execFrameRecv s
  | .frameXact n => Sys2Proof.Machine.execFrameXact n s
  | .respExc low b => Sys2Proof.Machine.execRespExc low b s
  | .respBc01 b => Sys2Proof.Machine.execRespBc01 b s
  | .respBc02 b => Sys2Proof.Machine.execRespBc02 b s
  | .respBc03 b => Sys2Proof.Machine.execRespBc03 b s
  | .respBc04 b => Sys2Proof.Machine.execRespBc04 b s
  | .respBc0C b => Sys2Proof.Machine.execRespBc0C b s
  | .respBc14 b => Sys2Proof.Machine.execRespBc14 b s
  | .respBc17 b => Sys2Proof.Machine.execRespBc17 b s
  | .respBc18 b => Sys2Proof.Machine.execRespBc18 b s
  | .respFix0F b => Sys2Proof.Machine.execRespFix0F b s
  | .respFix10 b => Sys2Proof.Machine.execRespFix10 b s
  | .respFix05 b => Sys2Proof.Machine.execRespFix05 b s
  | .respFix06 b => Sys2Proof.Machine.execRespFix06 b s
  | .respFix16 b => Sys2Proof.Machine.execRespFix16 b s
  | .respFix0B b => Sys2Proof.Machine.execRespFix0B b s
  | .respFix11 b => Sys2Proof.Machine.execRespFix11 b s
  | .respFix08 b => Sys2Proof.Machine.execRespFix08 b s
  | .respUnsup00 b => Sys2Proof.Machine.execRespUnsup00 b s
  | .respUnsup07 b => Sys2Proof.Machine.execRespUnsup07 b s
  | .respUnsup09 b => Sys2Proof.Machine.execRespUnsup09 b s
  | .respUnsup0A b => Sys2Proof.Machine.execRespUnsup0A b s
  | .respUnsup0D b => Sys2Proof.Machine.execRespUnsup0D b s
  | .respUnsup0E b => Sys2Proof.Machine.execRespUnsup0E b s
  | .respUnsup12 b => Sys2Proof.Machine.execRespUnsup12 b s
  | .respUnsup13 b => Sys2Proof.Machine.execRespUnsup13 b s
  | .respUnsup15 b => Sys2Proof.Machine.execRespUnsup15 b s
  | .respUnsup19 b => Sys2Proof.Machine.execRespUnsup19 b s
  | .respUnsup1A b => Sys2Proof.Machine.execRespUnsup1A b s
  | .respUnsup1B b => Sys2Proof.Machine.execRespUnsup1B b s
  | .respUnsup1C b => Sys2Proof.Machine.execRespUnsup1C b s
  | .respUnsup1D b => Sys2Proof.Machine.execRespUnsup1D b s
  | .respUnsup1E b => Sys2Proof.Machine.execRespUnsup1E b s
  | .respUnsup1F b => Sys2Proof.Machine.execRespUnsup1F b s
  | .respUnsup20 b => Sys2Proof.Machine.execRespUnsup20 b s
  | .respUnsup21 b => Sys2Proof.Machine.execRespUnsup21 b s
  | .respUnsup22 b => Sys2Proof.Machine.execRespUnsup22 b s
  | .respUnsup23 b => Sys2Proof.Machine.execRespUnsup23 b s
  | .respUnsup24 b => Sys2Proof.Machine.execRespUnsup24 b s
  | .respUnsup25 b => Sys2Proof.Machine.execRespUnsup25 b s
  | .respUnsup26 b => Sys2Proof.Machine.execRespUnsup26 b s
  | .respUnsup27 b => Sys2Proof.Machine.execRespUnsup27 b s
  | .respUnsup28 b => Sys2Proof.Machine.execRespUnsup28 b s
  | .respUnsup29 b => Sys2Proof.Machine.execRespUnsup29 b s
  | .respUnsup2A b => Sys2Proof.Machine.execRespUnsup2A b s
  | .respUnsup2B b => Sys2Proof.Machine.execRespUnsup2B b s
  | .respUnsup2C b => Sys2Proof.Machine.execRespUnsup2C b s
  | .respUnsup2D b => Sys2Proof.Machine.execRespUnsup2D b s
  | .respUnsup2E b => Sys2Proof.Machine.execRespUnsup2E b s
  | .respUnsup2F b => Sys2Proof.Machine.execRespUnsup2F b s
  | .respUnsup30 b => Sys2Proof.Machine.execRespUnsup30 b s
  | .respUnsup31 b => Sys2Proof.Machine.execRespUnsup31 b s
  | .respUnsup32 b => Sys2Proof.Machine.execRespUnsup32 b s
  | .respUnsup33 b => Sys2Proof.Machine.execRespUnsup33 b s
  | .respUnsup34 b => Sys2Proof.Machine.execRespUnsup34 b s
  | .respUnsup35 b => Sys2Proof.Machine.execRespUnsup35 b s
  | .respUnsup36 b => Sys2Proof.Machine.execRespUnsup36 b s
  | .respUnsup37 b => Sys2Proof.Machine.execRespUnsup37 b s
  | .respUnsup38 b => Sys2Proof.Machine.execRespUnsup38 b s
  | .respUnsup39 b => Sys2Proof.Machine.execRespUnsup39 b s
  | .respUnsup3A b => Sys2Proof.Machine.execRespUnsup3A b s
  | .respUnsup3B b => Sys2Proof.Machine.execRespUnsup3B b s
  | .respUnsup3C b => Sys2Proof.Machine.execRespUnsup3C b s
  | .respUnsup3D b => Sys2Proof.Machine.execRespUnsup3D b s
  | .respUnsup3E b => Sys2Proof.Machine.execRespUnsup3E b s
  | .respUnsup3F b => Sys2Proof.Machine.execRespUnsup3F b s
  | .respUnsup40 b => Sys2Proof.Machine.execRespUnsup40 b s
  | .respUnsup41 b => Sys2Proof.Machine.execRespUnsup41 b s
  | .respUnsup42 b => Sys2Proof.Machine.execRespUnsup42 b s
  | .respUnsup43 b => Sys2Proof.Machine.execRespUnsup43 b s
  | .respUnsup44 b => Sys2Proof.Machine.execRespUnsup44 b s
  | .respUnsup45 b => Sys2Proof.Machine.execRespUnsup45 b s
  | .respUnsup46 b => Sys2Proof.Machine.execRespUnsup46 b s
  | .respUnsup47 b => Sys2Proof.Machine.execRespUnsup47 b s
  | .respUnsup48 b => Sys2Proof.Machine.execRespUnsup48 b s
  | .respUnsup49 b => Sys2Proof.Machine.execRespUnsup49 b s
  | .respUnsup4A b => Sys2Proof.Machine.execRespUnsup4A b s
  | .respUnsup4B b => Sys2Proof.Machine.execRespUnsup4B b s
  | .respUnsup4C b => Sys2Proof.Machine.execRespUnsup4C b s
  | .respUnsup4D b => Sys2Proof.Machine.execRespUnsup4D b s
  | .respUnsup4E b => Sys2Proof.Machine.execRespUnsup4E b s
  | .respUnsup4F b => Sys2Proof.Machine.execRespUnsup4F b s
  | .respUnsup50 b => Sys2Proof.Machine.execRespUnsup50 b s
  | .respUnsup51 b => Sys2Proof.Machine.execRespUnsup51 b s
  | .respUnsup52 b => Sys2Proof.Machine.execRespUnsup52 b s
  | .respUnsup53 b => Sys2Proof.Machine.execRespUnsup53 b s
  | .respUnsup54 b => Sys2Proof.Machine.execRespUnsup54 b s
  | .respUnsup55 b => Sys2Proof.Machine.execRespUnsup55 b s
  | .respUnsup56 b => Sys2Proof.Machine.execRespUnsup56 b s
  | .respUnsup57 b => Sys2Proof.Machine.execRespUnsup57 b s
  | .respUnsup58 b => Sys2Proof.Machine.execRespUnsup58 b s
  | .respUnsup59 b => Sys2Proof.Machine.execRespUnsup59 b s
  | .respUnsup5A b => Sys2Proof.Machine.execRespUnsup5A b s
  | .respUnsup5B b => Sys2Proof.Machine.execRespUnsup5B b s
  | .respUnsup5C b => Sys2Proof.Machine.execRespUnsup5C b s
  | .respUnsup5D b => Sys2Proof.Machine.execRespUnsup5D b s
  | .respUnsup5E b => Sys2Proof.Machine.execRespUnsup5E b s
  | .respUnsup5F b => Sys2Proof.Machine.execRespUnsup5F b s
  | .respUnsup60 b => Sys2Proof.Machine.execRespUnsup60 b s
  | .respUnsup61 b => Sys2Proof.Machine.execRespUnsup61 b s
  | .respUnsup62 b => Sys2Proof.Machine.execRespUnsup62 b s
  | .respUnsup63 b => Sys2Proof.Machine.execRespUnsup63 b s
  | .respUnsup64 b => Sys2Proof.Machine.execRespUnsup64 b s
  | .respUnsup65 b => Sys2Proof.Machine.execRespUnsup65 b s
  | .respUnsup66 b => Sys2Proof.Machine.execRespUnsup66 b s
  | .respUnsup67 b => Sys2Proof.Machine.execRespUnsup67 b s
  | .respUnsup68 b => Sys2Proof.Machine.execRespUnsup68 b s
  | .respUnsup69 b => Sys2Proof.Machine.execRespUnsup69 b s
  | .respUnsup6A b => Sys2Proof.Machine.execRespUnsup6A b s
  | .respUnsup6B b => Sys2Proof.Machine.execRespUnsup6B b s
  | .respUnsup6C b => Sys2Proof.Machine.execRespUnsup6C b s
  | .respUnsup6D b => Sys2Proof.Machine.execRespUnsup6D b s
  | .respUnsup6E b => Sys2Proof.Machine.execRespUnsup6E b s
  | .respUnsup6F b => Sys2Proof.Machine.execRespUnsup6F b s
  | .respUnsup70 b => Sys2Proof.Machine.execRespUnsup70 b s
  | .respUnsup71 b => Sys2Proof.Machine.execRespUnsup71 b s
  | .respUnsup72 b => Sys2Proof.Machine.execRespUnsup72 b s
  | .respUnsup73 b => Sys2Proof.Machine.execRespUnsup73 b s
  | .respUnsup74 b => Sys2Proof.Machine.execRespUnsup74 b s
  | .respUnsup75 b => Sys2Proof.Machine.execRespUnsup75 b s
  | .respUnsup76 b => Sys2Proof.Machine.execRespUnsup76 b s
  | .respUnsup77 b => Sys2Proof.Machine.execRespUnsup77 b s
  | .respUnsup78 b => Sys2Proof.Machine.execRespUnsup78 b s
  | .respUnsup79 b => Sys2Proof.Machine.execRespUnsup79 b s
  | .respUnsup7A b => Sys2Proof.Machine.execRespUnsup7A b s
  | .respUnsup7B b => Sys2Proof.Machine.execRespUnsup7B b s
  | .respUnsup7C b => Sys2Proof.Machine.execRespUnsup7C b s
  | .respUnsup7D b => Sys2Proof.Machine.execRespUnsup7D b s
  | .respUnsup7E b => Sys2Proof.Machine.execRespUnsup7E b s
  | .respUnsup7F b => Sys2Proof.Machine.execRespUnsup7F b s

end Sys2Proof.Machine
end

