-- ==== Sys2Proof/Machine/HostPort.lean ====
section
/-! DEFINITION. The host's window (spec/10_state.md R21, R52; spec/20_memory.md R60, R63 to R66): which accesses are admitted,
what a read gives back, what a write does, and the accept of a command word (spec/60_exceptions.md R233). Also the host-program
notation of spec/30_encoding.md R117 and R118, as the inputs it stands for. -/

namespace Sys2Proof.Machine

/-- The registers of R21; every other offset below 0x100 is reserved (R52). -/
inductive Reg where
  | cmd
  | status
  | arg
  | slave
  | budget
  | mark
  | now
  | crc
  | result
  | txLen
  | txWritten
  | rxCount
  | rxNeed
  | rxPduLen
  | flushCount
  | flushPollMs
  | phase
  | link
  | reserved
  deriving DecidableEq, Repr

/-- The registers in the order of their offsets, from 0x000 on, 4 bytes each (R21). -/
def registerMap : List Reg :=
  [.cmd, .status, .arg, .slave, .budget, .mark, .now, .crc, .result, .txLen, .txWritten, .rxCount, .rxNeed, .rxPduLen,
   .flushCount, .flushPollMs, .phase, .link]

/-- What an offset of the window is to an access. -/
inductive Target where
  | register (r : Reg)
  | txByte (i : Nat)
  | rxByte (i : Nat)
  deriving DecidableEq, Repr

/-- The admitted accesses of R63: registers by aligned 32-bit accesses, buffer bytes by 8-bit ones; none for any other. -/
def targetAt (offset : BitVec 11) (w : Width) : Option Target :=
  let a := offset.toNat
  if a < 0x100 then
    if w = .w32 ∧ a % 4 = 0 then some (.register (registerMap.getD (a / 4) .reserved)) else none
  else if inTxWindow a then
    if w = .w8 then some (.txByte (a - Config.txBase)) else none
  else if inRxWindow a then
    if w = .w8 then some (.rxByte (a - Config.rxBase)) else none
  else none

/-- The value a read of a register gives back; reserved bits and reserved registers read 0 (R21 to R48, R52). -/
def State.register (s : State) : Reg → Word
  | .cmd => 0
  | .status => s.statusWord
  | .arg => s.arg
  | .slave => s.slave.setWidth 32
  | .budget => s.budget
  | .mark => s.mark
  | .now => s.now
  | .crc => s.crc.setWidth 32
  | .result => s.result
  | .txLen => s.txLen.setWidth 32
  | .txWritten => s.txWritten.setWidth 32
  | .rxCount => s.rxCount.setWidth 32
  | .rxNeed => s.rxNeed.setWidth 32
  | .rxPduLen => s.rxPduLen.setWidth 32
  | .flushCount => s.flushCount
  | .flushPollMs => s.flushPollMs.setWidth 32
  | .phase => s.phase.code.setWidth 32
  | .link => (BitVec.ofBool s.linkOpen).setWidth 32
  | .reserved => 0

/-- The value a read gives back. -/
def State.readTarget (s : State) : Target → Word
  | .register r => s.register r
  | .txByte i => (s.tx i).setWidth 32
  | .rxByte i => (s.rx i).setWidth 32

/-- The detail code of a rejected word (R113). -/
def rejectDetail : DecodeError → Byte
  | .reservedOpcode => 1
  | .reservedBits => 2

/-- A word that is no command (R113): the opcode is recorded, and the command completes with InvalidOperation. -/
def rejectCommand (w : Word) (e : DecodeError) (s : State) : State :=
  (s.accept (opcodeOf w)).finish .invalidOperation (rejectDetail e)

/-- The accept of a command word while the block is idle (R22, R233). -/
def acceptCommand (w : Word) (s : State) : Result :=
  match decode (.command w) with
  | .ok i => exec i s
  | .error e => .next (rejectCommand w e s)

/-- A write to a register while the block is idle: CMD, ARG, SLAVE and FLUSH_POLL_MS are writable, and writes to the others
are ignored (R21, R65, R52). -/
def writeRegister (r : Reg) (v : Word) (s : State) : Result :=
  match r with
  | .cmd => acceptCommand v s
  | .arg => .next { s with arg := v }
  | .slave => .next { s with slave := v.setWidth 8 }
  | .flushPollMs => .next { s with flushPollMs := v.setWidth 16 }
  | .status | .budget | .mark | .now | .crc | .result | .txLen | .txWritten | .rxCount | .rxNeed | .rxPduLen
  | .flushCount | .phase | .link | .reserved => .next s

/-- A write while the block is idle; a write to a byte of RXBUF clears RX_VALID (R65). -/
def writeTarget (t : Target) (v : Word) (s : State) : Result :=
  match t with
  | .register r => writeRegister r v s
  | .txByte i => .next (s.setByte (Config.txBase + i) (v.setWidth 8))
  | .rxByte i => .next { s.setByte (Config.rxBase + i) (v.setWidth 8) with rxValid := false }

/-- A host access (R63, R65): a read has no side effect on the block; a write while BUSY is 1 is dropped and sets COLL
(spec/70_reset_and_hazards.md R270, R271). -/
def hostAccess (offset : BitVec 11) (x : Access) (s : State) : Result :=
  match x with
  | .read w =>
    match targetAt offset w with
    | none => .refused .hostAccess
    | some t => .next (s.giveBack (s.readTarget t))
  | .write w v =>
    match targetAt offset w with
    | none => .refused .hostAccess
    | some t => if s.busy then .next s.setColl else writeTarget t v s

/-- A host access while RESET is asserted (R260): the state is at its reset values before and after it. -/
def hostAccessInReset (offset : BitVec 11) (x : Access) (s : State) : Result :=
  let s := s.resetBlock
  match x with
  | .read w =>
    match targetAt offset w with
    | none => .refused .hostAccess
    | some t => .next (s.giveBack (s.readTarget t))
  | .write w _ =>
    match targetAt offset w with
    | none => .refused .hostAccess
    | some _ => .next s

/-- The offset of an absolute address in the block's window, none outside it (R64). -/
def windowOffset (address : Word) : Option (BitVec 11) :=
  if address.extractLsb' 11 21 = Config.blockPage then some (address.extractLsb' 0 11) else none

/-! ### The host-program notation (R117, R118) -/

/-- A line of a host program: the accesses of R117 and the pseudo-instructions of R118. -/
inductive HostLine where
  | w32 (offset : BitVec 11) (v : Word)
  | w8 (offset : BitVec 11) (b : Byte)
  | r32 (offset : BitVec 11)
  /-- WAIT, as the number of reads of STATUS it makes in a run -/
  | wait (reads : Nat)
  /-- a command alone: the write of its word to CMD -/
  | command (i : Instr)
  | crcOver (bytes : List Byte)
  | loadT (t : Word)
  | pdu (bytes : List Byte)
  | setSlave (b : Byte)
  deriving DecidableEq, Repr

/-- The word of a command, 0 for a response header, which no host writes. -/
def commandWord (i : Instr) : Word :=
  match encode i with
  | .command w => w
  | .header _ _ => 0

/-- The bytes of a PDU line, written from a window offset on. -/
def pduInputs (now : Word) (a : Nat) : List Byte → List Input
  | [] => []
  | b :: bs => .host (BitVec.ofNat 11 a) (.write .w8 (b.setWidth 32)) now :: pduInputs now (a + 1) bs

/-- The write of a command's word to CMD. -/
def commandInput (now : Word) (i : Instr) : Input := .host 0 (.write .w32 (commandWord i)) now

/-- The host accesses a line stands for, at a time. -/
def HostLine.inputs (now : Word) : HostLine → List Input
  | .w32 off v => [.host off (.write .w32 v) now]
  | .w8 off b => [.host off (.write .w8 (b.setWidth 32)) now]
  | .r32 off => [.host off (.read .w32) now]
  | .wait k => List.replicate k (.host 4 (.read .w32) now)
  | .command i => [commandInput now i]
  | .crcOver bytes => commandInput now .crcInit :: bytes.map fun b => commandInput now (.crcByte b)
  | .loadT t => [.host 8 (.write .w32 t) now, commandInput now .budgetLoad]
  | .pdu bytes => pduInputs now 0x101 bytes
  | .setSlave b => [.host 0xC (.write .w32 (b.setWidth 32)) now]

end Sys2Proof.Machine
end

