-- ==== Sys2Proof/Machine/Rounds.lean ====
section
/-! DEFINITION. The rounds of a running command (spec/42_framer.md R177 to R179), the sequence of its phases (R187), and the
choice of the one enabled round (R188). Each round makes one transport call, answered in the same step. -/

namespace Sys2Proof.Machine

/-- The poll answer of this step: the one offered, else a free one (U2). -/
def Answer.asPoll (a : Option Answer) (draw : Nat) : PollAnswer :=
  match a with
  | some (.poll r) => r
  | _ => Config.freePoll draw

/-- The read answer of this step: the one offered, else a free one (U2). -/
def Answer.asRead (a : Option Answer) (draw : Nat) : ReadAnswer :=
  match a with
  | some (.read r) => r
  | _ => Config.freeRead draw

/-- The write answer of this step: the one offered, else a free one (U2). -/
def Answer.asWrite (a : Option Answer) (draw : Nat) : WriteAnswer :=
  match a with
  | some (.write r) => r
  | _ => Config.freeWrite draw

/-- An error answer's kind (spec/20_memory.md R74). -/
def LinkError.kind : LinkError → ErrKind
  | .hangup => .linkBroken
  | .io => .ioError

/-- The response header a complete RX_HDR holds (R183): ADU bytes 1 and 2. -/
def State.header (s : State) : Code := .header (s.rx 1) (s.rx 2)

/-- phase_done(p) (R187): the next phase of the command in LAST_OP, or its completion. The end of a header runs the
instruction that its function code decodes to. -/
def phaseDone (p : Phase) (s : State) : Result :=
  match p with
  | .flush =>
    if s.lastOp = Opcode.frameFlush then .next s.finishOk
    else if s.lastOp = Opcode.frameXact then .next (s.enter .send)
    else .fault .noPhaseSequence
  | .send =>
    if s.lastOp = Opcode.frameSend then .next s.finishOk
    else if s.lastOp = Opcode.frameXact then .next (s.enter .rxHdr)
    else .fault .noPhaseSequence
  | .rxHdr => exec (decodeHeader (s.rx 1) (s.rx 2)) s
  | .rxRest => .next (s.verify s.rxNeed.toNat)
  | .idle | .verify => .fault .noPhaseSequence

/-- After a transfer: the phase is complete, or the budget is exhausted (the kind and detail given), or the next poll. -/
def afterTransfer (s : State) (complete : Bool) (p : Phase) : Result :=
  if complete then phaseDone p s
  else if s.exhausted then .next (s.finish .timeout 3)
  else .next (s.setSub .poll)

/-- The poll half of a round (R177 to R179): the call, the charge, then the answer; what Idle means is the phase's. -/
def pollRound (c : Call) (a : Option Answer) (s : State) (onIdle : State → Result) : Result :=
  let r := Answer.asPoll a s.draws
  let s := s.call c
  match r with
  | .err e => .next (s.finish (LinkError.kind e) 1)
  | .idle => onIdle s
  | .ready => .next (s.setSub .xfer)

/-- The SEND round (R177). -/
def sendRound (a : Option Answer) (s : State) : Result :=
  match s.sub with
  | .poll => pollRound (.pollWritable s.budget) a s fun s => .next (s.finish .timeout 2)
  | .xfer =>
    if s.txWritten < s.txLen ∧ s.txLen.toNat ≤ Config.aduMax then
      let bytes := s.txBytes s.txWritten.toNat s.txLen.toNat
      let r := Answer.asWrite a s.draws
      let s := s.call (.write bytes)
      match r with
      | .err e => .next (s.finish (LinkError.kind e) 2)
      | .ok k =>
        if bytes.length < k then .next (s.finish .internalError 1)
        else
          let s := s.transmit bytes k
          afterTransfer s (s.txWritten == s.txLen) .send
    else .fault .transferRange

/-- The receive round of RX_HDR and RX_REST (R178). -/
def recvRound (a : Option Answer) (s : State) : Result :=
  match s.sub with
  | .poll => pollRound (.pollReadable s.budget) a s fun s => .next (s.finish .timeout 2)
  | .xfer =>
    if s.rxCount < s.rxNeed ∧ s.rxNeed.toNat ≤ Config.aduMax then
      let want := s.rxNeed.toNat - s.rxCount.toNat
      let r := Answer.asRead a s.draws
      let s := s.call (.read want)
      match r with
      | .err e => .next (s.finish (LinkError.kind e) 2)
      | .ok bytes =>
        let s := s.deliver bytes
        if want < bytes.length then .next (s.finish .internalError 1)
        else
          let s := s.receive bytes
          afterTransfer s (s.rxCount == s.rxNeed) s.phase
    else .fault .transferRange

/-- The flush round (R179): the bytes read are discarded and counted. -/
def flushRound (a : Option Answer) (s : State) : Result :=
  match s.sub with
  | .poll => pollRound (.pollReadable (s.flushPollMs.setWidth 32)) a s (phaseDone .flush)
  | .xfer =>
    let r := Answer.asRead a s.draws
    let s := s.call (.read Config.flushChunk)
    match r with
    | .err e => .next (s.finish (LinkError.kind e) 2)
    | .ok bytes =>
      let s := s.deliver bytes
      if Config.flushChunk < bytes.length then .next (s.finish .internalError 1)
      else
        let s := s.addFlushCount bytes.length
        if s.exhausted then .next (s.finish .busy 1) else .next (s.setSub .poll)

/-- The one enabled step while BUSY is 1 (R188): the link check (spec/20_memory.md R76), then the phase's round. -/
def blockRound (a : Option Answer) (s : State) : Result :=
  match s.phase with
  | .flush => if s.linkOpen then flushRound a s else .next (s.finish .linkBroken 3)
  | .send => if s.linkOpen then sendRound a s else .next (s.finish .linkBroken 3)
  | .rxHdr | .rxRest => if s.linkOpen then recvRound a s else .next (s.finish .linkBroken 3)
  | .idle | .verify => .fault .noEnabledRound

end Sys2Proof.Machine
end

