-- ==== Sys2Proof/Machine/Agents.lean ====
section
/-! DEFINITION. What one step does with the next input of the outside world, and what it does when there is none (spec/00_scope.md
R12, R13; spec/60_exceptions.md R239). -/

namespace Sys2Proof.Machine

/-- The block's own step with RESET released: its round while BUSY is 1 (R188); while BUSY is 0 it waits for the host (R281). -/
def blockStep (a : Option Answer) (s : State) : Result :=
  if s.busy then blockRound a s else .next s

/-- One input, taken at the head of the list. While RESET is asserted, and in the step it is released, every piece of state takes
its reset value (R260); the step that asserts it is one of these, and an input that leaves RESET released does nothing. -/
def takeInput (x : Input) (s : State) : Result :=
  match x with
  | .host off a now =>
    let s := s.setNow now
    if s.resetAsserted then hostAccessInReset off a s else hostAccess off a s
  | .bus addr a now =>
    let s := s.setNow now
    match windowOffset addr with
    | none => if s.resetAsserted then .next s.resetBlock else .next s
    | some off => if s.resetAsserted then hostAccessInReset off a s else hostAccess off a s
  | .round a now =>
    let s := s.setNow now
    if s.resetAsserted then .next s.resetBlock else blockStep (some a) s
  | .link isOpen =>
    let s := { s with linkOpen := isOpen }
    if s.resetAsserted then .next s.resetBlock else .next s
  | .reset asserted =>
    if asserted || s.resetAsserted then .next { s.resetBlock with resetAsserted := asserted } else .next s

/-- A step with no input listed: the block waits, or takes its round with a free time and a free answer (U2, U3). -/
def quietStep (s : State) : Result :=
  if s.resetAsserted then .next s.resetBlock
  else if s.busy then blockRound none (s.setNow (Config.freeNow s.draws))
  else .next s

/-- The encoded form of the instruction at a fetch: the state in which the very next step runs it. A command word is the
next host write to CMD, on an idle block out of reset. A response header is the next Read answer, in the last read of a
receive's header, on an open link. -/
def State.offerCode (s : State) : Code → State
  | .command w =>
    { s with
      resetAsserted := false, busy := false, phase := .idle, sub := .poll,
      inputs := .host 0 (.write .w32 w) s.now :: s.inputs }
  | .header fc bc =>
    { s with
      resetAsserted := false, linkOpen := true, busy := true, done := false, lastOp := Opcode.frameRecv, phase := .rxHdr,
      sub := .xfer, rxCount := 1, rxNeed := 3, inputs := .round (.read (.ok [fc, bc])) s.now :: s.inputs }

end Sys2Proof.Machine
end

