-- ==== Sys2Proof/Machine/Step.lean ====
section
/-! DEFINITION. One step of the machine: the next input of the outside world is taken, or, when none is listed, the block goes
on alone. -/

namespace Sys2Proof.Machine

/-- One step (spec/00_scope.md R12). -/
def step (s : State) : Host.Outcome State Fault Refusal :=
  match s.inputs with
  | [] => quietStep s
  | x :: rest => takeInput x (s.setInputs rest)

/-- The state with an instruction, given by a table row's bits, where the next step fetches it. -/
def State.withFetchWord (s : State) (nbits w : Nat) : State := s.offerCode (tableCode nbits w)

end Sys2Proof.Machine
end

