-- ==== Sys2Proof/Safety.lean ====
section
/-! DEFINITION. What the rules say of the block's state between two steps, as one invariant in named parts, each a decidable
proposition; when a run of a host program is over (spec/70_reset_and_hazards.md R279); and the tables and shapes of a next
state the statements are written with, taken from the rules. -/

namespace Sys2Proof.Machine

/-- BUSY, PHASE and SUB go together (spec/10_state.md R24, R41, R51): PHASE is IDLE exactly while BUSY is 0, VERIFY is never
seen between steps, and an idle block's SUB is POLL. -/
abbrev PhaseOk (s : State) : Prop :=
  (s.busy = true ↔ s.phase ≠ .idle) ∧ s.phase ≠ .verify ∧ (s.busy = false → s.sub = .poll)

/-- The phase belongs to the sequence of the command in LAST_OP (spec/42_framer.md R187). -/
abbrev SequenceOk (s : State) : Prop :=
  (s.phase = .flush → s.lastOp = Opcode.frameFlush ∨ s.lastOp = Opcode.frameXact) ∧
  (s.phase = .send → s.lastOp = Opcode.frameSend ∨ s.lastOp = Opcode.frameXact) ∧
  (s.phase = .rxHdr ∨ s.phase = .rxRest → s.lastOp = Opcode.frameRecv ∨ s.lastOp = Opcode.frameXact)

/-- The pairs of STATUS.ERR and STATUS.DETAIL that R230 and R231 list. -/
def statusPairs : List (ErrKind × Byte) :=
  [(.success, 0), (.invalidOperation, 1), (.invalidOperation, 2), (.invalidOperation, 3), (.invalidOperation, 4),
   (.invalidOperation, 5), (.ioError, 1), (.ioError, 2), (.linkBroken, 1), (.linkBroken, 2), (.linkBroken, 3),
   (.protocolError, 1), (.protocolError, 2), (.protocolError, 3), (.protocolError, 4), (.timeout, 1), (.timeout, 2),
   (.timeout, 3), (.internalError, 1), (.busy, 1)]

/-- The completion fields (R25, R29, R30, R31, U12): while a command runs they are clear; the error and detail are a pair of
the tables, so ConfigError never stands there. -/
abbrev StatusOk (s : State) : Prop :=
  (s.busy = true → s.done = false ∧ s.err = .success ∧ s.detail = 0 ∧ s.endPhase = .idle) ∧
  (s.err, s.detail) ∈ statusPairs

/-- The transmit lengths (spec/10_state.md R40, R42; spec/30_encoding.md R92). -/
abbrev TxOk (s : State) : Prop :=
  (s.txLen = 0 ∨ 4 ≤ s.txLen.toNat) ∧ s.txLen.toNat ≤ 256 ∧ s.txWritten.toNat ≤ s.txLen.toNat ∧
  (s.phase = .send → s.txWritten.toNat < s.txLen.toNat) ∧
  (s.phase = .flush ∧ s.lastOp = Opcode.frameXact → 4 ≤ s.txLen.toNat)

/-- The receive lengths (R43, R45; spec/42_framer.md R183). -/
abbrev RxOk (s : State) : Prop :=
  s.rxNeed.toNat ≤ 256 ∧ s.rxCount.toNat ≤ 256 ∧
  (s.phase = .rxHdr → s.rxNeed.toNat = 3 ∧ s.rxCount.toNat < 3) ∧
  (s.phase = .rxRest → 5 ≤ s.rxNeed.toNat ∧ 3 ≤ s.rxCount.toNat ∧ s.rxCount.toNat < s.rxNeed.toNat)

/-- While a command that receives runs, there is no valid frame (R27, R191). -/
abbrev ReceivingOk (s : State) : Prop :=
  s.busy = true ∧ (s.lastOp = Opcode.frameRecv ∨ s.lastOp = Opcode.frameXact) → s.rxValid = false ∧ s.rxPduLen = 0

/-- RX_VALID means what R27 says: RXBUF holds a PDU of legal length whose ADU carries the right CRC (R90, R180). -/
abbrev FrameOk (s : State) : Prop :=
  s.rxPduLen.toNat ≤ 253 ∧
  (s.rxValid = true → 1 ≤ s.rxPduLen.toNat ∧ s.rxCrcMatches (s.rxPduLen.toNat + 3) = true)

/-- Every poll is made with a positive budget (spec/41_budget.md R159). -/
abbrev BudgetOk (s : State) : Prop := s.busy = true ∧ s.sub = .poll → 0 < s.budget.toInt

/-- The frame buffers are in canonical form. -/
abbrev MemoryOk (s : State) : Prop := Memory.wf s.mem = true

/-- The invariant of the block. -/
abbrev Inv (s : State) : Prop :=
  PhaseOk s ∧ SequenceOk s ∧ StatusOk s ∧ TxOk s ∧ RxOk s ∧ ReceivingOk s ∧ FrameOk s ∧ BudgetOk s ∧ MemoryOk s

/-- While a frame is sent, the bytes handed to the transport last are the ones TX_WRITTEN counts, in TXBUF order; while one is
received, the bytes delivered last are the ones RX_COUNT counts, in stream order (spec/20_memory.md R80, R42, R43). -/
abbrev StreamsOk (s : State) : Prop :=
  (s.phase = .send → s.txBytes 0 s.txWritten.toNat <:+ s.txStream) ∧
  (s.phase = .rxHdr ∨ s.phase = .rxRest → s.rxBytes 0 s.rxCount.toNat <:+ s.rxStream)

/-- No command is running (R24, R41, R51): the state in which a command is accepted. The invariant gives PHASE and SUB. -/
abbrev Idle (s : State) : Prop := s.busy = false ∧ s.phase = .idle ∧ s.sub = .poll

/-- A command is running a phase, on an open link, with RESET released. -/
abbrev RunningOpen (s : State) (p : Phase) (x : Sub) : Prop :=
  s.busy = true ∧ s.resetAsserted = false ∧ s.linkOpen = true ∧ s.phase = p ∧ s.sub = x

/-- An idle block after a command that ended in its accept step with this status, and whose effect is already in `s`: nothing
else differs (R235). -/
def State.reported (s : State) (op : Byte) (kind : ErrKind) (detail : Byte) (endPhase : Phase) : State :=
  { s with done := true, coll := false, err := kind, detail := detail, endPhase := endPhase, lastOp := op }

/-- An idle block after a phase command that began its first phase, and whose other effects are already in `s` (R24, R176). -/
def State.started (s : State) (op : Byte) (p : Phase) : State :=
  { s with
    busy := true, done := false, coll := false, err := .success, detail := 0, endPhase := .idle, lastOp := op,
    phase := p, sub := .poll }

/-- The state in which an input is looked at: it has left the list, and the time input has its value. -/
def State.took (s : State) (rest : List Input) (now : Word) : State := { s with inputs := rest, now := now }

/-- The opcode map of spec/30_encoding.md R112 by format: opcode, and the reserved bits of its words (R110). -/
def opcodeMap : List (Byte × Word) :=
  [(0x01, 0xFFFFFF00), (0x02, 0xFFFF0000), (0x03, 0x0000FF00), (0x04, 0x0000FF00), (0x10, 0xFFFFFF00), (0x11, 0xFFFFFF00),
   (0x20, 0x0000FF00), (0x21, 0xFF000000), (0x22, 0x0000FF00), (0x23, 0xFFFFFF00), (0x24, 0xFFFFFF00), (0x25, 0xFFFFFF00),
   (0x26, 0x0000FF00)]

/-- The legal ranges of N16 by opcode (R112). -/
def lengthMap : List (Byte × Nat × Nat) :=
  [(0x03, 0, 260), (0x04, 0, 260), (0x20, 1, 253), (0x22, 4, 256), (0x26, 1, 253)]

/-- The response headers of class BC (R95), with byte count `bc`. -/
def byteCountHeaders (bc : Byte) : List Instr :=
  [.respBc01 bc, .respBc02 bc, .respBc03 bc, .respBc04 bc, .respBc0C bc, .respBc14 bc, .respBc17 bc, .respBc18 bc]

/-- The response headers of class FIX (R95) and their PDU lengths. -/
def fixedHeaders (b2 : Byte) : List (Instr × Nat) :=
  [(.respFix0F b2, 5), (.respFix10 b2, 5), (.respFix05 b2, 5), (.respFix06 b2, 5), (.respFix16 b2, 7), (.respFix0B b2, 5),
   (.respFix11 b2, 5), (.respFix08 b2, 5)]

/-- The response headers of class UNSUP with function codes 0x00 to 0x0F (R95). -/
def unsupportedHeaders0 (b2 : Byte) : List Instr :=
  [.respUnsup00 b2, .respUnsup07 b2, .respUnsup09 b2, .respUnsup0A b2, .respUnsup0D b2, .respUnsup0E b2]

/-- The response headers of class UNSUP with function codes 0x10 to 0x1F (R95). -/
def unsupportedHeaders1 (b2 : Byte) : List Instr :=
  [.respUnsup12 b2, .respUnsup13 b2, .respUnsup15 b2, .respUnsup19 b2, .respUnsup1A b2, .respUnsup1B b2,
   .respUnsup1C b2, .respUnsup1D b2, .respUnsup1E b2, .respUnsup1F b2]

/-- The response headers of class UNSUP with function codes 0x20 to 0x2F (R95). -/
def unsupportedHeaders2 (b2 : Byte) : List Instr :=
  [.respUnsup20 b2, .respUnsup21 b2, .respUnsup22 b2, .respUnsup23 b2, .respUnsup24 b2, .respUnsup25 b2,
   .respUnsup26 b2, .respUnsup27 b2, .respUnsup28 b2, .respUnsup29 b2, .respUnsup2A b2, .respUnsup2B b2,
   .respUnsup2C b2, .respUnsup2D b2, .respUnsup2E b2, .respUnsup2F b2]

/-- The response headers of class UNSUP with function codes 0x30 to 0x3F (R95). -/
def unsupportedHeaders3 (b2 : Byte) : List Instr :=
  [.respUnsup30 b2, .respUnsup31 b2, .respUnsup32 b2, .respUnsup33 b2, .respUnsup34 b2, .respUnsup35 b2,
   .respUnsup36 b2, .respUnsup37 b2, .respUnsup38 b2, .respUnsup39 b2, .respUnsup3A b2, .respUnsup3B b2,
   .respUnsup3C b2, .respUnsup3D b2, .respUnsup3E b2, .respUnsup3F b2]

/-- The response headers of class UNSUP with function codes 0x40 to 0x4F (R95). -/
def unsupportedHeaders4 (b2 : Byte) : List Instr :=
  [.respUnsup40 b2, .respUnsup41 b2, .respUnsup42 b2, .respUnsup43 b2, .respUnsup44 b2, .respUnsup45 b2,
   .respUnsup46 b2, .respUnsup47 b2, .respUnsup48 b2, .respUnsup49 b2, .respUnsup4A b2, .respUnsup4B b2,
   .respUnsup4C b2, .respUnsup4D b2, .respUnsup4E b2, .respUnsup4F b2]

/-- The response headers of class UNSUP with function codes 0x50 to 0x5F (R95). -/
def unsupportedHeaders5 (b2 : Byte) : List Instr :=
  [.respUnsup50 b2, .respUnsup51 b2, .respUnsup52 b2, .respUnsup53 b2, .respUnsup54 b2, .respUnsup55 b2,
   .respUnsup56 b2, .respUnsup57 b2, .respUnsup58 b2, .respUnsup59 b2, .respUnsup5A b2, .respUnsup5B b2,
   .respUnsup5C b2, .respUnsup5D b2, .respUnsup5E b2, .respUnsup5F b2]

/-- The response headers of class UNSUP with function codes 0x60 to 0x6F (R95). -/
def unsupportedHeaders6 (b2 : Byte) : List Instr :=
  [.respUnsup60 b2, .respUnsup61 b2, .respUnsup62 b2, .respUnsup63 b2, .respUnsup64 b2, .respUnsup65 b2,
   .respUnsup66 b2, .respUnsup67 b2, .respUnsup68 b2, .respUnsup69 b2, .respUnsup6A b2, .respUnsup6B b2,
   .respUnsup6C b2, .respUnsup6D b2, .respUnsup6E b2, .respUnsup6F b2]

/-- The response headers of class UNSUP with function codes 0x70 to 0x7F (R95). -/
def unsupportedHeaders7 (b2 : Byte) : List Instr :=
  [.respUnsup70 b2, .respUnsup71 b2, .respUnsup72 b2, .respUnsup73 b2, .respUnsup74 b2, .respUnsup75 b2,
   .respUnsup76 b2, .respUnsup77 b2, .respUnsup78 b2, .respUnsup79 b2, .respUnsup7A b2, .respUnsup7B b2,
   .respUnsup7C b2, .respUnsup7D b2, .respUnsup7E b2, .respUnsup7F b2]

/-- The response headers of class UNSUP (R95), 0x00 to 0x7F without the codes of the other classes. -/
def unsupportedHeaders (b2 : Byte) : List Instr :=
  unsupportedHeaders0 b2 ++ unsupportedHeaders1 b2 ++ unsupportedHeaders2 b2 ++ unsupportedHeaders3 b2
    ++ unsupportedHeaders4 b2 ++ unsupportedHeaders5 b2 ++ unsupportedHeaders6 b2 ++ unsupportedHeaders7 b2

/-- Charges at each of these times, in order (spec/41_budget.md R151). -/
def State.chargeAt (s : State) (times : List Word) : State := times.foldl (fun s t => (s.setNow t).charge) s

/-- The true time a list of samples spans from a first one on, in milliseconds, each step forward less than 2^32 (R154). -/
def elapsedThrough (t : Word) : List Word → Nat
  | [] => 0
  | u :: us => (u - t).toNat + elapsedThrough u us

/-- The milliseconds that rounds at the times of an input list charge in sum, from a sample on, each charge modulo 2^32 (R151):
the sum that spec/70_reset_and_hazards.md R277 makes grow without bound. Host accesses and LINK_OPEN changes charge nothing. -/
def chargedTime (t : Word) : List Input → Nat
  | [] => 0
  | .round _ u :: l => (u - t).toNat + chargedTime u l
  | .host _ _ _ :: l | .bus _ _ _ :: l | .link _ :: l | .reset _ :: l => chargedTime t l

/-- The width of an access (spec/20_memory.md R63). -/
def Access.width : Access → Width
  | .read w => w
  | .write w _ => w

/-- The accesses R63 admits: a register by an aligned 32-bit access, a buffer byte by an 8-bit one. -/
abbrev Admitted (offset : BitVec 11) (w : Width) : Prop :=
  (offset.toNat ≤ 0xFC ∧ offset.toNat % 4 = 0 ∧ w = .w32) ∨
  (0x100 ≤ offset.toNat ∧ offset.toNat ≤ 0x203 ∧ w = .w8) ∨
  (0x300 ≤ offset.toNat ∧ offset.toNat ≤ 0x403 ∧ w = .w8)

/-- An input that R63 does not refuse: a host access, at an offset or at an address of the window (R64), is an admitted one. -/
def Input.admitted : Input → Prop
  | .host off x _ => Admitted off x.width
  | .bus address x _ => ∀ off, windowOffset address = some off → Admitted off x.width
  | .round _ _ | .link _ | .reset _ => True

/-- The register map of R21: offset, and what a read gives back. -/
def registerValues (s : State) : List (BitVec 11 × Word) :=
  [(0x000, 0), (0x004, s.statusWord), (0x008, s.arg), (0x00C, s.slave.setWidth 32), (0x010, s.budget), (0x014, s.mark),
   (0x018, s.now), (0x01C, s.crc.setWidth 32), (0x020, s.result), (0x024, s.txLen.setWidth 32),
   (0x028, s.txWritten.setWidth 32), (0x02C, s.rxCount.setWidth 32), (0x030, s.rxNeed.setWidth 32),
   (0x034, s.rxPduLen.setWidth 32), (0x038, s.flushCount), (0x03C, s.flushPollMs.setWidth 32),
   (0x040, s.phase.code.setWidth 32), (0x044, (BitVec.ofBool s.linkOpen).setWidth 32)]

/-- The one transport call of the next round, by PHASE and SUB (spec/42_framer.md R177 to R179), none where no round is
enabled. -/
def State.nextCall (s : State) : Option Call :=
  match s.phase, s.sub with
  | .flush, .poll => some (.pollReadable (s.flushPollMs.setWidth 32))
  | .flush, .xfer => some (.read 260)
  | .send, .poll => some (.pollWritable s.budget)
  | .send, .xfer => some (.write (s.txBytes s.txWritten.toNat s.txLen.toNat))
  | .rxHdr, .poll | .rxRest, .poll => some (.pollReadable s.budget)
  | .rxHdr, .xfer | .rxRest, .xfer => some (.read (s.rxNeed.toNat - s.rxCount.toNat))
  | .idle, .poll | .idle, .xfer | .verify, .poll | .verify, .xfer => none

/-- BUDGET after one charge at a time, as R151 and R152 compute it: exact integers, and a clamp at the bottom only. -/
def State.budgetAfter (s : State) (now : Word) : Int :=
  max (-(2 ^ 31)) (s.budget.toInt - ((now.toNat : Int) - s.mark.toNat) % 2 ^ 32)

/-- Every piece of the block's state holds the value of spec/10_state.md R54; no byte of the buffers is written. -/
abbrev AtResetValues (s : State) : Prop :=
  s.busy = false ∧ s.done = false ∧ s.coll = false ∧ s.rxValid = false ∧ s.err = .success ∧ s.endPhase = .idle ∧
  s.detail = 0 ∧ s.lastOp = 0 ∧ s.arg = 0 ∧ s.slave = 0 ∧ s.budget = 0 ∧ s.mark = 0 ∧ s.crc = 0xFFFF ∧ s.result = 0 ∧
  s.txLen = 0 ∧ s.txWritten = 0 ∧ s.rxCount = 0 ∧ s.rxNeed = 0 ∧ s.rxPduLen = 0 ∧ s.flushCount = 0 ∧
  s.flushPollMs = 0 ∧ s.phase = .idle ∧ s.sub = .poll ∧ s.mem = []

/-- A word of this opcode with a reserved bit that is 1 completes at once with InvalidOperation, detail 2, and changes
nothing else (spec/30_encoding.md R113). -/
abbrev RejectsReservedBits (op : Byte) (reserved : Word) (s : State) : Prop :=
  ∀ w, w.extractLsb' 0 8 = op → w &&& reserved ≠ 0 →
    acceptCommand w s = .next (s.reported op .invalidOperation 2 .idle)

/-- A number of steps, stopping at the first that gives no next state. -/
def runSteps : Nat → State → Result
  | 0, s => .next s
  | k + 1, s =>
    match step s with
    | .next t => runSteps k t
    | .fault r => .fault r
    | .refused r => .refused r

/-- An input that is a host access. -/
def Input.isHost : Input → Bool
  | .host _ _ _ => true
  | .bus _ _ _ => true
  | .round _ _ => false
  | .link _ => false
  | .reset _ => false

/-- An input that is a round of the block. -/
def Input.isRound : Input → Bool
  | .round _ _ => true
  | .host _ _ _ => false
  | .bus _ _ _ => false
  | .link _ => false
  | .reset _ => false

/-- An input that drives RESET. -/
def Input.isReset : Input → Bool
  | .reset _ => true
  | .host _ _ _ => false
  | .bus _ _ _ => false
  | .round _ _ => false
  | .link _ => false

/-- A run of a host program is over (R279): no access of it is left, and BUSY is 0. -/
def State.runOver (s : State) : Bool := !s.inputs.any Input.isHost && !s.busy

end Sys2Proof.Machine
end

