-- ==== Sys2Proof/Certificates/Slice0/Obligations.lean ====
section
/-! DEFINITION. The statements for the provers, from the numbered rules of spec/. An equation `exec i s = .next …` gives the
whole next state: a field it does not name is the one of `s`, and so is every byte of both buffers unless it says `mem`. -/

open Sys2Proof Sys2Proof.Machine

/-! ### Encodings (spec/30_encoding.md) -/

/-- R110, R112, R95: the decoder reads back every instruction's encoding, with every operand at every value. -/
def Obligations.DecodeOfEncode : Prop := ∀ i : Instr, decode (encode i) = .ok i

/-- R110 to R115: what decodes to an instruction is that instruction's encoding, so no two encodings mean the same. -/
def Obligations.EncodeOfDecode : Prop := ∀ (c : Code) (i : Instr), decode c = .ok i → encode i = c

/-- R116 and spec/95_test_vectors.md: words written out there, and headers of its vectors, decode to their instructions. -/
def Obligations.SampleWordsDecode : Prop :=
  decode (.command 0x00000102) = .ok (.crcByte 0x01) ∧
  decode (.command 0x00060003) = .ok (.crcTxbuf 6) ∧
  decode (.command 0x00000010) = .ok .budgetLoad ∧
  decode (.command 0x00050020) = .ok (.frameBuild 5) ∧
  decode (.command 0x00020321) = .ok (.framePdulen 0x03 0x02) ∧
  decode (.command 0x00070022) = .ok (.frameVerify 7) ∧
  decode (.command 0x00050026) = .ok (.frameXact 5) ∧
  decode (.header 0x03 0x02) = .ok (.respBc03 0x02) ∧
  decode (.header 0x16 0x00) = .ok (.respFix16 0x00) ∧
  decode (.header 0x2B 0x0E) = .ok (.respUnsup2B 0x0E) ∧
  decode (.header 0x83 0x02) = .ok (.respExc 0x03 0x02)

/-- R115: the decode of a command word is total, and its answer is decided by the opcode first and then by the reserved
bits of the opcode's format (R110, R112). R115's third check, the range of N16, is the meaning's (the model's choice, log entry
19): a word whose only fault is its N16 decodes here to its instruction, and IllegalWordsCompleteAtOnce says how it ends. -/
def Obligations.CommandWordsAreClassified : Prop :=
  ∀ w : Word,
    (decode (.command w) = .error .reservedOpcode ↔ ∀ m, (w.extractLsb' 0 8, m) ∉ opcodeMap) ∧
    (decode (.command w) = .error .reservedBits ↔ ∃ m, (w.extractLsb' 0 8, m) ∈ opcodeMap ∧ w &&& m ≠ 0) ∧
    ((∃ i, decode (.command w) = .ok i) ↔ ∃ m, (w.extractLsb' 0 8, m) ∈ opcodeMap ∧ w &&& m = 0)

/-- R95: the function code selects the row of its class, for every function code. -/
def Obligations.HeadersAreClassified : Prop :=
  ∀ fc bc : Byte, ∃ i, decode (.header fc bc) = .ok i ∧
    (0x80 ≤ fc → i = .respExc (fc.setWidth 7) bc) ∧
    (fc ∈ ([0x01, 0x02, 0x03, 0x04, 0x0C, 0x14, 0x17, 0x18] : List Byte) → i ∈ byteCountHeaders bc) ∧
    (fc ∈ ([0x0F, 0x10, 0x05, 0x06, 0x0B, 0x11, 0x08] : List Byte) → (i, 5) ∈ fixedHeaders bc) ∧
    (fc = 0x16 → (i, 7) ∈ fixedHeaders bc) ∧
    (fc < 0x80 →
      fc ∉ ([0x01, 0x02, 0x03, 0x04, 0x0C, 0x14, 0x17, 0x18, 0x0F, 0x10, 0x05, 0x06, 0x16, 0x0B, 0x11, 0x08] : List Byte) →
      i ∈ unsupportedHeaders bc)

/-! ### From words and bytes to meanings -/

/-- R22, R233: a host write to CMD while the block is idle is accepted in that step; the word that decodes to an
instruction runs it. -/
def Obligations.StepRunsTheCommandWritten : Prop :=
  ∀ (s : State) (w now : Word) (rest : List Input),
    s.busy = false → s.resetAsserted = false → s.inputs = .host 0x000 (.write .w32 w) now :: rest →
    step s = acceptCommand w (s.took rest now) ∧
    ∀ i, decode (.command w) = .ok i → step s = exec i (s.took rest now)

/-- R183: the read that completes a received header stores and counts its bytes, and in the same step runs the instruction
that ADU bytes 1 and 2 decode to. -/
def Obligations.StepRunsTheHeaderReceived : Prop :=
  ∀ (s : State) (bytes : List Byte) (now : Word) (rest : List Input),
    Inv s → RunningOpen s .rxHdr .xfer → s.inputs = .round (.read (.ok bytes)) now :: rest →
    s.rxCount.toNat + bytes.length = 3 →
    let u := (((s.took rest now).call (.read bytes.length)).deliver bytes).receive bytes
    ∃ i, decode (.header (u.rx 1) (u.rx 2)) = .ok i ∧ step s = exec i u

/-- R113: an illegal word is recorded in LAST_OP, changes no other state, and completes at once with InvalidOperation: detail
1 for a reserved opcode, 2 for a reserved bit, 3 for an N16 outside its range. FRAME.VERIFY, FRAME.RECV and FRAME.XACT drop
the verified frame when they are accepted, also when details 2 and 3 end them (R27, R46, R191, against the note under V-V1: log
entry 10). -/
def Obligations.IllegalWordsCompleteAtOnce : Prop :=
  ∀ (s : State) (w : Word), Idle s →
    let op : Byte := w.extractLsb' 0 8
    let n : Half := w.extractLsb' 16 16
    let u : State := if op ∈ ([0x22, 0x25, 0x26] : List Byte) then { s with rxValid := false, rxPduLen := 0 } else s
    ((∀ m, (op, m) ∉ opcodeMap) → acceptCommand w s = .next (s.reported op .invalidOperation 1 .idle)) ∧
    (∀ m, (op, m) ∈ opcodeMap → w &&& m ≠ 0 → acceptCommand w s = .next (u.reported op .invalidOperation 2 .idle)) ∧
    (∀ m lo hi, (op, m) ∈ opcodeMap → w &&& m = 0 → (op, lo, hi) ∈ lengthMap → ¬(lo ≤ n.toNat ∧ n.toNat ≤ hi) →
      acceptCommand w s = .next (u.reported op .invalidOperation 3 .idle))

/-- R170: the link check of the four transport commands, then the TX_LEN check of FRAME.SEND; FRAME.BUILD, FRAME.PDULEN and
FRAME.VERIFY need no link. FRAME.RECV and FRAME.XACT drop the verified frame also when the link is closed, since they were accepted
(R27, R46, R191; the pseudocode of R184 and R186 clears it after the check: log entry 10). -/
def Obligations.TransportCommandsNeedTheLink : Prop :=
  ∀ s : State, Idle s →
    let dropped : State := { s with rxValid := false, rxPduLen := 0 }
    (s.linkOpen = false →
      exec .frameFlush s = .next (s.reported 0x23 .invalidOperation 4 .idle) ∧
      exec .frameSend s = .next (s.reported 0x24 .invalidOperation 4 .idle) ∧
      exec .frameRecv s = .next (dropped.reported 0x25 .invalidOperation 4 .idle) ∧
      ∀ n : Half, 1 ≤ n.toNat → n.toNat ≤ 253 →
        exec (.frameXact n) s = .next (dropped.reported 0x26 .invalidOperation 4 .idle)) ∧
    (s.linkOpen = true → s.txLen = 0 → exec .frameSend s = .next (s.reported 0x24 .invalidOperation 5 .idle)) ∧
    (∀ (n : Half) (fc bc : Byte), ∃ t u v,
      exec (.frameBuild n) s = .next t ∧ exec (.framePdulen fc bc) s = .next u ∧ exec (.frameVerify n) s = .next v ∧
      (t.err, t.detail) ≠ (.invalidOperation, 4) ∧ (u.err, u.detail) ≠ (.invalidOperation, 4) ∧
      (v.err, v.detail) ≠ (.invalidOperation, 4))

/-! ### Commands that complete in their accept step -/

/-- R131: CRC.INIT sets the accumulator to 0xFFFF, changes nothing else, and rejects a reserved bit. -/
def Obligations.CrcInitResult : Prop :=
  ∀ s : State, Idle s →
    encode .crcInit = .command 0x00000001 ∧
    exec .crcInit s = .next ({ s with crc := 0xFFFF }.reported 0x01 .success 0 .idle) ∧
    RejectsReservedBits 0x01 0xFFFFFF00 s

/-- R132: CRC.BYTE continues the accumulator, changes nothing else, and rejects a reserved bit; and its three values for single
bytes that the rule writes out. -/
def Obligations.CrcByteResult : Prop :=
  (∀ (s : State) (b : Byte), Idle s →
    encode (.crcByte b) = .command (0x00000002 ||| b.setWidth 32 <<< 8) ∧
    exec (.crcByte b) s = .next ({ s with crc := crcByte s.crc b }.reported 0x02 .success 0 .idle) ∧
    RejectsReservedBits 0x02 0xFFFF0000 s) ∧
  crcByte 0xFFFF 0x00 = 0x40BF ∧ crcByte 0x0000 0x00 = 0x0000 ∧ crcByte 0xFFFF 0x01 = 0x807E

/-- R133, R134: CRC.TXBUF and CRC.RXBUF set the accumulator to the CRC of the first n bytes of their buffer and change nothing
else; a length above 260 and a reserved bit are rejected. -/
def Obligations.CrcBufferResult : Prop :=
  ∀ (s : State) (n : Half), Idle s →
    encode (.crcTxbuf n) = .command (n.setWidth 32 <<< 16 ||| 0x03) ∧
    encode (.crcRxbuf n) = .command (n.setWidth 32 <<< 16 ||| 0x04) ∧
    (n.toNat ≤ 260 →
      exec (.crcTxbuf n) s = .next ({ s with crc := crc16 (s.txBytes 0 n.toNat) }.reported 0x03 .success 0 .idle) ∧
      exec (.crcRxbuf n) s = .next ({ s with crc := crc16 (s.rxBytes 0 n.toNat) }.reported 0x04 .success 0 .idle)) ∧
    (260 < n.toNat →
      exec (.crcTxbuf n) s = .next (s.reported 0x03 .invalidOperation 3 .idle) ∧
      exec (.crcRxbuf n) s = .next (s.reported 0x04 .invalidOperation 3 .idle)) ∧
    RejectsReservedBits 0x03 0x0000FF00 s ∧ RejectsReservedBits 0x04 0x0000FF00 s

/-- R155: BUDGET.LOAD takes ARG and samples NOW; any value is accepted, and EXPIRED follows the new budget. -/
def Obligations.BudgetLoadResult : Prop :=
  ∀ s : State, Idle s →
    encode .budgetLoad = .command 0x00000010 ∧
    (∃ t, exec .budgetLoad s = .next t ∧
      t = { s with budget := s.arg, mark := s.now }.reported 0x10 .success 0 .idle ∧
      t.statusWord.getLsbD 4 = decide (s.arg.toInt ≤ 0)) ∧
    RejectsReservedBits 0x10 0xFFFFFF00 s

/-- R156, R151, R152: BUDGET.CHARGE subtracts the milliseconds since MARK, modulo 2^32, exactly, and clamps at the bottom
only; an exhausted budget is no error. -/
def Obligations.BudgetChargeResult : Prop :=
  ∀ s : State, Idle s →
    encode .budgetCharge = .command 0x00000011 ∧
    (∃ b : Word,
      exec .budgetCharge s = .next ({ s with budget := b, mark := s.now }.reported 0x11 .success 0 .idle) ∧
      b.toInt = s.budgetAfter s.now ∧ b.toInt ≤ s.budget.toInt) ∧
    RejectsReservedBits 0x11 0xFFFFFF00 s

/-- R171, R172: FRAME.BUILD writes the slave id, the CRC over id and PDU low byte first, and no other byte. -/
def Obligations.FrameBuildResult : Prop :=
  ∀ (s : State) (n : Half), Idle s →
    encode (.frameBuild n) = .command (n.setWidth 32 <<< 16 ||| 0x20) ∧
    (1 ≤ n.toNat → n.toNat ≤ 253 →
      let c := crc16 (s.slave :: s.txBytes 1 (n.toNat + 1))
      ∃ t, exec (.frameBuild n) s = .next t ∧
        t = { s with crc := c, txLen := n + 3, txWritten := 0, mem := t.mem }.reported 0x20 .success 0 .idle ∧
        t.tx 0 = s.slave ∧ t.tx (n.toNat + 1) = c.extractLsb' 0 8 ∧ t.tx (n.toNat + 2) = c.extractLsb' 8 8 ∧
        ∀ a, a ≠ 0x100 → a ≠ 0x100 + (n.toNat + 1) → a ≠ 0x100 + (n.toNat + 2) → t.byteAt a = s.byteAt a) ∧
    (¬(1 ≤ n.toNat ∧ n.toNat ≤ 253) →
      exec (.frameBuild n) s = .next (s.reported 0x20 .invalidOperation 3 .idle)) ∧
    RejectsReservedBits 0x20 0x0000FF00 s

/-- R173, R174, R175: FRAME.PDULEN for every function code and byte count; RESULT is 0 when there is no length. -/
def Obligations.FramePdulenResult : Prop :=
  ∀ (s : State) (fc bc : Byte), Idle s →
    let found (len : Word) : Result := .next ({ s with result := len }.reported 0x21 .success 0 .idle)
    let byteCount : List Byte := [0x01, 0x02, 0x03, 0x04, 0x0C, 0x14, 0x17, 0x18]
    let five : List Byte := [0x0F, 0x10, 0x05, 0x06, 0x0B, 0x11, 0x08]
    encode (.framePdulen fc bc) = .command (bc.setWidth 32 <<< 16 ||| fc.setWidth 32 <<< 8 ||| 0x21) ∧
    (0x80 ≤ fc → exec (.framePdulen fc bc) s = found 2) ∧
    (fc ∈ byteCount → bc.toNat ≤ 251 → exec (.framePdulen fc bc) s = found (2 + bc.setWidth 32)) ∧
    (fc ∈ byteCount → 252 ≤ bc.toNat →
      exec (.framePdulen fc bc) s = .next ({ s with result := 0 }.reported 0x21 .protocolError 2 .idle)) ∧
    (fc ∈ five → exec (.framePdulen fc bc) s = found 5) ∧
    (fc = 0x16 → exec (.framePdulen fc bc) s = found 7) ∧
    (fc < 0x80 → fc ∉ byteCount → fc ∉ five → fc ≠ 0x16 →
      exec (.framePdulen fc bc) s = .next ({ s with result := 0 }.reported 0x21 .protocolError 1 .idle)) ∧
    RejectsReservedBits 0x21 0xFF000000 s

/-- R185, R180: FRAME.VERIFY checks the slave id, then the CRC of all but the last two bytes against those two, low byte
first; RX_COUNT, the link and the budget are untouched. The verified frame is dropped at accept, also when an illegal n or a
reserved bit ends the command (R27, R46, R191, against the note under V-V1: log entry 10). -/
def Obligations.FrameVerifyResult : Prop :=
  ∀ (s : State) (n : Half), Idle s →
    let c := crc16 (s.rxBytes 0 (n.toNat - 2))
    let matched := s.rx (n.toNat - 2) = c.extractLsb' 0 8 ∧ s.rx (n.toNat - 1) = c.extractLsb' 8 8
    let dropped : State := { s with rxValid := false, rxPduLen := 0 }
    let r : State := { dropped with rxNeed := n }
    encode (.frameVerify n) = .command (n.setWidth 32 <<< 16 ||| 0x22) ∧
    (4 ≤ n.toNat → n.toNat ≤ 256 → s.rx 0 ≠ s.slave →
      exec (.frameVerify n) s = .next (r.reported 0x22 .protocolError 3 .verify)) ∧
    (4 ≤ n.toNat → n.toNat ≤ 256 → s.rx 0 = s.slave → ¬matched →
      exec (.frameVerify n) s = .next ({ r with crc := c }.reported 0x22 .protocolError 4 .verify)) ∧
    (4 ≤ n.toNat → n.toNat ≤ 256 → s.rx 0 = s.slave → matched →
      exec (.frameVerify n) s =
        .next ({ r with crc := c, rxPduLen := n - 3, rxValid := true }.reported 0x22 .success 0 .verify)) ∧
    (¬(4 ≤ n.toNat ∧ n.toNat ≤ 256) →
      exec (.frameVerify n) s = .next (dropped.reported 0x22 .invalidOperation 3 .idle)) ∧
    ∀ w : Word, w.extractLsb' 0 8 = 0x22 → w &&& 0x0000FF00 ≠ 0 →
      acceptCommand w s = .next (dropped.reported 0x22 .invalidOperation 2 .idle)

/-! ### Commands that run phases: the accept step -/

/-- R181, R176: FRAME.FLUSH on an open link begins the flush, or ends with Timeout when the budget is exhausted. -/
def Obligations.FlushStarts : Prop :=
  ∀ s : State, Idle s → s.linkOpen = true →
    (0 < s.budget.toInt → exec .frameFlush s = .next ({ s with flushCount := 0 }.started 0x23 .flush)) ∧
    (s.budget.toInt ≤ 0 → exec .frameFlush s = .next (s.reported 0x23 .timeout 1 .flush))

/-- R182, R176: FRAME.SEND of an ADU that was built begins the send at its first byte, or ends with Timeout. -/
def Obligations.SendStarts : Prop :=
  ∀ s : State, Idle s → s.linkOpen = true → s.txLen ≠ 0 →
    (0 < s.budget.toInt → exec .frameSend s = .next ({ s with txWritten := 0 }.started 0x24 .send)) ∧
    (s.budget.toInt ≤ 0 → exec .frameSend s = .next (s.reported 0x24 .timeout 1 .send))

/-- R184, R176: FRAME.RECV drops the valid frame and begins the header, or ends with Timeout. -/
def Obligations.RecvStarts : Prop :=
  ∀ s : State, Idle s → s.linkOpen = true →
    let r : State := { s with rxValid := false, rxPduLen := 0 }
    (0 < s.budget.toInt →
      exec .frameRecv s = .next ({ r with rxCount := 0, rxNeed := 3 }.started 0x25 .rxHdr)) ∧
    (s.budget.toInt ≤ 0 → exec .frameRecv s = .next (r.reported 0x25 .timeout 1 .rxHdr))

/-- R186, R172, R176: FRAME.XACT builds the ADU even on an exhausted budget, drops the valid frame, then begins the flush
or ends with Timeout. -/
def Obligations.XactStarts : Prop :=
  ∀ (s : State) (n : Half), Idle s → s.linkOpen = true → 1 ≤ n.toNat → n.toNat ≤ 253 →
    let c := crc16 (s.slave :: s.txBytes 1 (n.toNat + 1))
    ∃ t, exec (.frameXact n) s = .next t ∧
      (let r : State :=
        { s with crc := c, txLen := n + 3, txWritten := 0, rxValid := false, rxPduLen := 0, mem := t.mem }
       (0 < s.budget.toInt → t = { r with flushCount := 0 }.started 0x26 .flush) ∧
       (s.budget.toInt ≤ 0 → t = r.reported 0x26 .timeout 1 .flush)) ∧
      t.tx 0 = s.slave ∧ t.tx (n.toNat + 1) = c.extractLsb' 0 8 ∧ t.tx (n.toNat + 2) = c.extractLsb' 8 8 ∧
      ∀ a, a ≠ 0x100 → a ≠ 0x100 + (n.toNat + 1) → a ≠ 0x100 + (n.toNat + 2) → t.byteAt a = s.byteAt a

/-! ### Response headers (R95, R173, R183) -/

/-- R93, R183: an exception response needs 5 bytes, whatever the low bits of its function code and its exception code; RX_REST
begins, or the receive ends with Timeout on an exhausted budget. -/
def Obligations.ExceptionHeaderResult : Prop :=
  ∀ (s : State) (low : BitVec 7) (b2 : Byte),
    (0 < s.budget.toInt →
      exec (.respExc low b2) s = .next { s with rxNeed := 5, phase := .rxRest, sub := .poll }) ∧
    (s.budget.toInt ≤ 0 →
      exec (.respExc low b2) s = .next ({ s with rxNeed := 5, phase := .rxRest }.finish .timeout 1))

/-- R95, R97, R183: a response of the eight function codes of class BC needs 5 bytes more than its byte count; RX_REST begins, or
the receive ends with Timeout on an exhausted budget; a byte count of 252 or more ends it with ProtocolError, detail 2. -/
def Obligations.ByteCountHeadersResult : Prop :=
  ∀ (s : State) (bc : Byte), ∀ i ∈ byteCountHeaders bc,
    (bc.toNat ≤ 251 → 0 < s.budget.toInt →
      exec i s = .next { s with rxNeed := 5 + bc.setWidth 16, phase := .rxRest, sub := .poll }) ∧
    (bc.toNat ≤ 251 → s.budget.toInt ≤ 0 →
      exec i s = .next ({ s with rxNeed := 5 + bc.setWidth 16, phase := .rxRest }.finish .timeout 1)) ∧
    (252 ≤ bc.toNat → exec i s = .next (s.finish .protocolError 2))

/-- R95, R183: a response of the eight function codes of class FIX needs 3 bytes more than the table's length; RX_REST begins, or
the receive ends with Timeout on an exhausted budget. -/
def Obligations.FixedHeadersResult : Prop :=
  ∀ (s : State) (b2 : Byte), ∀ p ∈ fixedHeaders b2,
    (0 < s.budget.toInt →
      exec p.1 s = .next { s with rxNeed := BitVec.ofNat 16 (p.2 + 3), phase := .rxRest, sub := .poll }) ∧
    (s.budget.toInt ≤ 0 →
      exec p.1 s = .next ({ s with rxNeed := BitVec.ofNat 16 (p.2 + 3), phase := .rxRest }.finish .timeout 1))

/-- R95, R173, R183: every other function code ends the receive with ProtocolError, detail 1. -/
def Obligations.UnsupportedHeadersResult : Prop :=
  ∀ (s : State) (b2 : Byte), ∀ i ∈ unsupportedHeaders b2, exec i s = .next (s.finish .protocolError 1)

/-- R173, R96, R92: the receiver and FRAME.PDULEN infer the same length: for every header, the frame is RESULT + 3 bytes, 5 to
256 of them, or both report the same error. -/
def Obligations.HeadersAgreeWithPdulen : Prop :=
  ∀ (s u : State) (fc bc : Byte) (i : Instr), decode (.header fc bc) = .ok i →
    ∃ t v, exec (.framePdulen fc bc) s = .next t ∧ exec i u = .next v ∧
      (t.err = .success →
        v.rxNeed.toNat = t.result.toNat + 3 ∧ 5 ≤ v.rxNeed.toNat ∧ v.rxNeed.toNat ≤ 256) ∧
      (t.err ≠ .success → v.err = t.err ∧ v.detail = t.detail)

/-! ### The CRC (spec/40_crc.md) -/

/-- R136: a sequence followed by its own CRC, low byte first, has CRC 0. -/
def Obligations.CrcResidue : Prop :=
  ∀ bytes : List Byte,
    crc16 (bytes ++ [(crc16 bytes).extractLsb' 0 8, (crc16 bytes).extractLsb' 8 8]) = 0x0000

/-- R130, R135: two sequences that differ in exactly one byte have different CRCs. -/
def Obligations.CrcFindsAnyOneByteError : Prop :=
  ∀ (before after : List Byte) (x y : Byte), x ≠ y →
    crc16 (before ++ x :: after) ≠ crc16 (before ++ y :: after)

/-- R55: a CRC.BYTE sequence on an idle block whose accumulator is 0xFFFF, as it is after reset, leaves the CRC of its
bytes. -/
def Obligations.CrcBytesFromResetValue : Prop :=
  State.reset.crc = 0xFFFF ∧
  ∀ (s : State) (bytes : List Byte) (now : Word) (rest : List Input),
    Idle s → s.resetAsserted = false → s.crc = 0xFFFF →
    s.inputs = bytes.map (fun b => commandInput now (.crcByte b)) ++ rest →
    ∃ t, runSteps bytes.length s = .next t ∧ t.crc = crc16 bytes ∧ t.inputs = rest ∧ Idle t

/-- R118, R132: the pseudo-instruction CRC.OVER leaves the CRC of its bytes, whatever the accumulator held. -/
def Obligations.CrcOverLeavesTheCrc : Prop :=
  ∀ (s : State) (bytes : List Byte) (now : Word) (rest : List Input),
    Idle s → s.resetAsserted = false → s.inputs = (HostLine.crcOver bytes).inputs now ++ rest →
    ∃ t, runSteps (bytes.length + 1) s = .next t ∧ t.crc = crc16 bytes ∧ t.inputs = rest ∧ Idle t

/-! ### Buffers -/

/-- R118, R49: the pseudo-instruction PDU writes its bytes at TXBUF[1] on, and no other byte of either buffer; of the rest, only
the inputs and the time differ. -/
def Obligations.PduLineWritesTheBuffer : Prop :=
  ∀ (s : State) (bytes : List Byte) (now : Word) (rest : List Input),
    s.busy = false → s.resetAsserted = false → bytes.length ≤ 259 →
    s.inputs = (HostLine.pdu bytes).inputs now ++ rest →
    ∃ t, runSteps bytes.length s = .next t ∧
      t = { s with inputs := rest, now := if bytes = [] then s.now else now, mem := t.mem } ∧
      t.txBytes 1 (bytes.length + 1) = bytes ∧
      ∀ a, a ≤ 0x100 ∨ 0x101 + bytes.length ≤ a → t.byteAt a = s.byteAt a

/-- R135: a frame as FRAME.BUILD leaves it in TXBUF, placed in RXBUF, passes FRAME.VERIFY and gives back its PDU. -/
def Obligations.BuiltFrameVerifies : Prop :=
  ∀ (s : State) (n : Half), Idle s → 1 ≤ n.toNat → n.toNat ≤ 253 →
    ∃ t, exec (.frameBuild n) s = .next t ∧
      ∀ u : State, Idle u → u.slave = s.slave → u.rxBytes 0 (n.toNat + 3) = t.txBytes 0 (n.toNat + 3) →
        ∃ v, exec (.frameVerify (n + 3)) u = .next v ∧ v.err = .success ∧ v.rxValid = true ∧ v.rxPduLen = n ∧
          v.rxBytes 1 (n.toNat + 1) = s.txBytes 1 (n.toNat + 1)

/-- The memory of the model (the model's choice, log entry 1): in the canonical form, two memories that read alike are equal,
and a write to a buffer keeps the form, reads back, and leaves every other address alone. -/
def Obligations.MemoryIsCanonical : Prop :=
  (∀ m m' : Memory, Memory.wf m = true → Memory.wf m' = true → (∀ a, Memory.read a m = Memory.read a m') → m = m') ∧
  ∀ (m : Memory) (a : Nat) (b : Byte), Memory.wf m = true →
    (0x100 ≤ a ∧ a ≤ 0x203) ∨ (0x300 ≤ a ∧ a ≤ 0x403) →
    Memory.wf (Memory.write a b m) = true ∧ Memory.read a (Memory.write a b m) = some b ∧
    ∀ x, x ≠ a → Memory.read x (Memory.write a b m) = Memory.read x m

/-- R178: received bytes are stored in stream order after those already there, and counted; no other byte changes. -/
def Obligations.ReceivedBytesAreStored : Prop :=
  ∀ (s : State) (bytes : List Byte), s.rxCount.toNat + bytes.length ≤ 260 →
    (s.receive bytes).rxCount.toNat = s.rxCount.toNat + bytes.length ∧
    (∀ i (h : i < bytes.length), (s.receive bytes).rx (s.rxCount.toNat + i) = bytes[i]) ∧
    ∀ a, (a < 0x300 + s.rxCount.toNat ∨ 0x300 + s.rxCount.toNat + bytes.length ≤ a) →
      (s.receive bytes).byteAt a = s.byteAt a

/-! ### The budget (spec/41_budget.md) -/

/-- R154: however many charges follow BUDGET.LOAD, the time from its sample to the last one is subtracted once. -/
def Obligations.ChargesTelescope : Prop :=
  ∀ (s : State) (times : List Word), Idle s →
    ∃ t, exec .budgetLoad s = .next t ∧
      (elapsedThrough s.now times < 2 ^ 32 → -(2 ^ 31) ≤ s.arg.toInt - elapsedThrough s.now times →
        (t.chargeAt times).budget.toInt = s.arg.toInt - (times.getLastD s.now - s.now).toNat)

/-- R35, R242: no step raises the budget but a BUDGET.LOAD, which takes ARG, and a reset. -/
def Obligations.BudgetRisesOnlyByLoad : Prop :=
  ∀ s t : State, step s = .next t →
    t.budget.toInt ≤ s.budget.toInt ∨ (t.lastOp = 0x10 ∧ t.budget = s.arg ∧ t.mark = t.now) ∨ t.epoch = s.epoch + 1

/-! ### The host's window (spec/10_state.md, spec/20_memory.md) -/

/-- R23, R28, R230, R41: every field of the STATUS word, the codes of the error kinds and of the phases, and that a host write to
STATUS is ignored. -/
def Obligations.StatusLayout : Prop :=
  ∀ s : State,
    (s.statusWord.getLsbD 0 = s.busy ∧ s.statusWord.getLsbD 1 = s.done ∧ s.statusWord.getLsbD 2 = s.coll ∧
      s.statusWord.getLsbD 3 = s.rxValid ∧ s.statusWord.getLsbD 4 = decide (s.budget.toInt ≤ 0) ∧
      s.statusWord.extractLsb' 5 3 = 0 ∧ s.statusWord.extractLsb' 8 4 = s.err.code ∧
      s.statusWord.extractLsb' 12 4 = s.endPhase.code ∧ s.statusWord.extractLsb' 16 8 = s.detail ∧
      s.statusWord.extractLsb' 24 8 = s.lastOp) ∧
    ErrKind.success.code = 0 ∧ ErrKind.invalidOperation.code = 1 ∧ ErrKind.ioError.code = 2 ∧ ErrKind.linkBroken.code = 3 ∧
    ErrKind.protocolError.code = 4 ∧ ErrKind.timeout.code = 5 ∧ ErrKind.internalError.code = 6 ∧
    ErrKind.configError.code = 7 ∧ ErrKind.busy.code = 8 ∧
    Phase.idle.code = 0 ∧ Phase.flush.code = 1 ∧ Phase.send.code = 2 ∧ Phase.rxHdr.code = 3 ∧ Phase.rxRest.code = 4 ∧
    Phase.verify.code = 5 ∧
    ∀ (v now : Word) (rest : List Input), s.busy = false → s.resetAsserted = false →
      s.inputs = .host 0x004 (.write .w32 v) now :: rest → step s = .next (s.took rest now)

/-- R21, R49, R50, R52, R65: what a host read gives back, at every register, reserved offset and buffer byte, and that it
has no side effect on the block, busy or idle. -/
def Obligations.HostReadsGiveBack : Prop :=
  ∀ (s : State) (now : Word) (rest : List Input), s.resetAsserted = false →
    (∀ p ∈ registerValues (s.took rest now), s.inputs = .host p.1 (.read .w32) now :: rest →
      step s = .next { s.took rest now with hostData := some p.2 }) ∧
    (∀ off : BitVec 11, 0x48 ≤ off.toNat → off.toNat ≤ 0xFC → off.toNat % 4 = 0 →
      s.inputs = .host off (.read .w32) now :: rest → step s = .next { s.took rest now with hostData := some 0 }) ∧
    (∀ i, i < 260 → s.inputs = .host (BitVec.ofNat 11 (0x100 + i)) (.read .w8) now :: rest →
      step s = .next { s.took rest now with hostData := some ((s.tx i).setWidth 32) }) ∧
    (∀ i, i < 260 → s.inputs = .host (BitVec.ofNat 11 (0x300 + i)) (.read .w8) now :: rest →
      step s = .next { s.took rest now with hostData := some ((s.rx i).setWidth 32) })

/-- R63: an access outside the admitted widths and offsets is refused, and every admitted one is taken, whatever the block
is doing: also while BUSY is 1 (log entry 9), and while RESET is asserted (the model's choice, log entries 9 and 14). -/
def Obligations.AccessesAdmittedAndRefused : Prop :=
  ∀ (s : State) (off : BitVec 11) (x : Access) (now : Word) (rest : List Input),
    s.inputs = .host off x now :: rest →
    (¬Admitted off x.width → step s = .refused .hostAccess) ∧ (Admitted off x.width → ∃ t, step s = .next t)

/-- R270, and for every other offset R271: a host write while BUSY is 1 is dropped and sets COLL; nothing else changes. (That
it is so at read-only and reserved offsets too is read from "every other host write": log entry 8.) -/
def Obligations.WritesWhileBusyAreDropped : Prop :=
  ∀ (s : State) (off : BitVec 11) (w : Width) (v now : Word) (rest : List Input),
    s.busy = true → s.resetAsserted = false → Admitted off w → s.inputs = .host off (.write w v) now :: rest →
    step s = .next { s.took rest now with coll := true }

/-- R33, R34, R48, R21, R52, R65: what a host write does while the block is idle, but for CMD: the three writable registers, the
ignored ones, and a byte of either buffer; a write to RXBUF clears RX_VALID. R246, R281, R188: an idle block waits: a step without
an input leaves it unchanged, and so does an offered round, for which it makes no call. R44, R239: a LINK_OPEN change, idle or
busy, sets LINK_OPEN and nothing else. (That each of these is one step, and that a round offered to an idle block passes with only
the time: the model's choice, log entry 7.) -/
def Obligations.WritesAndWaitingWhileIdle : Prop :=
  (∀ (s : State) (isOpen : Bool) (rest : List Input), s.resetAsserted = false → s.inputs = .link isOpen :: rest →
    step s = .next { s with inputs := rest, linkOpen := isOpen }) ∧
  ∀ (s : State) (v now : Word) (rest : List Input), s.busy = false → s.resetAsserted = false →
    (s.inputs = [] → step s = .next s) ∧
    (∀ a, s.inputs = .round a now :: rest → step s = .next (s.took rest now)) ∧
    (s.inputs = .host 0x008 (.write .w32 v) now :: rest → step s = .next { s.took rest now with arg := v }) ∧
    (s.inputs = .host 0x00C (.write .w32 v) now :: rest →
      step s = .next { s.took rest now with slave := v.extractLsb' 0 8 }) ∧
    (s.inputs = .host 0x03C (.write .w32 v) now :: rest →
      step s = .next { s.took rest now with flushPollMs := v.extractLsb' 0 16 }) ∧
    (∀ off : BitVec 11, off.toNat ≤ 0xFC → off.toNat % 4 = 0 → off ∉ ([0x000, 0x008, 0x00C, 0x03C] : List (BitVec 11)) →
      s.inputs = .host off (.write .w32 v) now :: rest → step s = .next (s.took rest now)) ∧
    (∀ i, i < 260 → s.inputs = .host (BitVec.ofNat 11 (0x100 + i)) (.write .w8 v) now :: rest →
      ∃ t, step s = .next t ∧ t = { s.took rest now with mem := t.mem } ∧ t.tx i = v.extractLsb' 0 8 ∧
        ∀ a, a ≠ 0x100 + i → t.byteAt a = s.byteAt a) ∧
    (∀ i, i < 260 → s.inputs = .host (BitVec.ofNat 11 (0x300 + i)) (.write .w8 v) now :: rest →
      ∃ t, step s = .next t ∧ t = { s.took rest now with mem := t.mem, rxValid := false } ∧
        t.rx i = v.extractLsb' 0 8 ∧ ∀ a, a ≠ 0x300 + i → t.byteAt a = s.byteAt a)

/-- R64: the window stands at BLOCK_BASE, which is aligned to 0x800: an access at BLOCK_BASE plus an offset is the one at that
offset. An access anywhere else is not the block's and has no effect on it, and addresses have 32 bits (both the model's choice,
log entry 13). -/
def Obligations.WindowStandsAtBlockBase : Prop :=
  Config.blockBase.toNat % 0x800 = 0 ∧
  ∀ (s : State) (x : Access) (now : Word) (rest : List Input),
    (∀ off : BitVec 11,
      step { s with inputs := .bus (Config.blockBase + off.setWidth 32) x now :: rest } =
        step { s with inputs := .host off x now :: rest }) ∧
    ∀ address : Word, s.resetAsserted = false →
      ¬(Config.blockBase.toNat ≤ address.toNat ∧ address.toNat < Config.blockBase.toNat + 0x800) →
      s.inputs = .bus address x now :: rest → step s = .next (s.took rest now)

/-! ### Rounds (spec/42_framer.md) -/

/-- R177, R187, R76: the whole SEND round: a closed link; a poll and its four answers; a write of the bytes not yet taken and its
answers, with what follows when all of them are taken. (That an answer of too many bytes extends no stream is the model's choice,
log entry 12.) -/
def Obligations.SendRound : Prop :=
  ∀ (s : State) (now : Word) (rest : List Input),
    Inv s → s.busy = true → s.resetAsserted = false → s.phase = .send →
    (∀ a, s.linkOpen = false → s.inputs = .round a now :: rest →
      step s = .next ((s.took rest now).finish .linkBroken 3)) ∧
    (∀ r, s.linkOpen = true → s.sub = .poll → s.inputs = .round (.poll r) now :: rest →
      let u := (s.took rest now).call (.pollWritable s.budget)
      step s = .next (match r with
        | .err .hangup => u.finish .linkBroken 1
        | .err .io => u.finish .ioError 1
        | .idle => u.finish .timeout 2
        | .ready => { u with sub := .xfer })) ∧
    (∀ r, s.linkOpen = true → s.sub = .xfer → s.inputs = .round (.write r) now :: rest →
      let bytes := s.txBytes s.txWritten.toNat s.txLen.toNat
      let u := (s.took rest now).call (.write bytes)
      (r = .err .hangup → step s = .next (u.finish .linkBroken 2)) ∧
      (r = .err .io → step s = .next (u.finish .ioError 2)) ∧
      ∀ k, r = .ok k →
        let v : State := { u with txWritten := s.txWritten + BitVec.ofNat 16 k, txStream := s.txStream ++ bytes.take k }
        (bytes.length < k → step s = .next (u.finish .internalError 1)) ∧
        (k < bytes.length → v.budget.toInt ≤ 0 → step s = .next (v.finish .timeout 3)) ∧
        (k < bytes.length → 0 < v.budget.toInt → step s = .next { v with sub := .poll }) ∧
        (k = bytes.length → s.lastOp = 0x24 → step s = .next (v.finish .success 0)) ∧
        (k = bytes.length → s.lastOp = 0x26 → v.budget.toInt ≤ 0 →
          step s = .next ({ v with phase := .rxHdr }.finish .timeout 1)) ∧
        (k = bytes.length → s.lastOp = 0x26 → 0 < v.budget.toInt →
          step s = .next { v with phase := .rxHdr, sub := .poll, rxCount := 0, rxNeed := 3 }))

/-- R178, R187, R76: the whole receive round of RX_HDR and RX_REST; the end of the header runs the header's instruction, the
end of the rest verifies RX_NEED bytes. (That an answer of too many bytes counts as delivered is the model's choice, log entry
12.) -/
def Obligations.ReceiveRound : Prop :=
  ∀ (s : State) (now : Word) (rest : List Input),
    Inv s → s.busy = true → s.resetAsserted = false → s.phase = .rxHdr ∨ s.phase = .rxRest →
    (∀ a, s.linkOpen = false → s.inputs = .round a now :: rest →
      step s = .next ((s.took rest now).finish .linkBroken 3)) ∧
    (∀ r, s.linkOpen = true → s.sub = .poll → s.inputs = .round (.poll r) now :: rest →
      let u := (s.took rest now).call (.pollReadable s.budget)
      step s = .next (match r with
        | .err .hangup => u.finish .linkBroken 1
        | .err .io => u.finish .ioError 1
        | .idle => u.finish .timeout 2
        | .ready => { u with sub := .xfer })) ∧
    (∀ r, s.linkOpen = true → s.sub = .xfer → s.inputs = .round (.read r) now :: rest →
      let want := s.rxNeed.toNat - s.rxCount.toNat
      let u := (s.took rest now).call (.read want)
      (r = .err .hangup → step s = .next (u.finish .linkBroken 2)) ∧
      (r = .err .io → step s = .next (u.finish .ioError 2)) ∧
      ∀ bytes, r = .ok bytes →
        let d : State := { u with rxStream := s.rxStream ++ bytes }
        let v := d.receive bytes
        (want < bytes.length → step s = .next (d.finish .internalError 1)) ∧
        (bytes.length < want → v.budget.toInt ≤ 0 → step s = .next (v.finish .timeout 3)) ∧
        (bytes.length < want → 0 < v.budget.toInt → step s = .next { v with sub := .poll }) ∧
        (bytes.length = want → s.phase = .rxHdr →
          ∃ i, decode (.header (v.rx 1) (v.rx 2)) = .ok i ∧ step s = exec i v) ∧
        (bytes.length = want → s.phase = .rxRest → step s = .next (v.verify s.rxNeed.toNat)))

/-- R179, R187, R76: the whole flush round; an idle poll is its success even on an exhausted budget, and the bytes read are
counted and written to no buffer. (That an answer of too many bytes counts as delivered is the model's choice, log entry 12.) -/
def Obligations.FlushRound : Prop :=
  ∀ (s : State) (now : Word) (rest : List Input),
    Inv s → s.busy = true → s.resetAsserted = false → s.phase = .flush →
    (∀ a, s.linkOpen = false → s.inputs = .round a now :: rest →
      step s = .next ((s.took rest now).finish .linkBroken 3)) ∧
    (∀ r, s.linkOpen = true → s.sub = .poll → s.inputs = .round (.poll r) now :: rest →
      let u := (s.took rest now).call (.pollReadable (s.flushPollMs.setWidth 32))
      (r = .err .hangup → step s = .next (u.finish .linkBroken 1)) ∧
      (r = .err .io → step s = .next (u.finish .ioError 1)) ∧
      (r = .ready → step s = .next { u with sub := .xfer }) ∧
      (r = .idle → s.lastOp = 0x23 → step s = .next (u.finish .success 0)) ∧
      (r = .idle → s.lastOp = 0x26 → u.budget.toInt ≤ 0 →
        step s = .next ({ u with phase := .send }.finish .timeout 1)) ∧
      (r = .idle → s.lastOp = 0x26 → 0 < u.budget.toInt →
        step s = .next { u with phase := .send, sub := .poll, txWritten := 0 })) ∧
    (∀ r, s.linkOpen = true → s.sub = .xfer → s.inputs = .round (.read r) now :: rest →
      let u := (s.took rest now).call (.read 260)
      (r = .err .hangup → step s = .next (u.finish .linkBroken 2)) ∧
      (r = .err .io → step s = .next (u.finish .ioError 2)) ∧
      ∀ bytes, r = .ok bytes →
        let d : State := { u with rxStream := s.rxStream ++ bytes }
        let v : State := { d with flushCount := s.flushCount + BitVec.ofNat 32 bytes.length }
        (260 < bytes.length → step s = .next (d.finish .internalError 1)) ∧
        (bytes.length ≤ 260 → v.budget.toInt ≤ 0 → step s = .next (v.finish .busy 1)) ∧
        (bytes.length ≤ 260 → 0 < v.budget.toInt → step s = .next { v with sub := .poll }))

/-- R180, R235: verification of n bytes in a received frame, its three outcomes, each ending the command in VERIFY. -/
def Obligations.VerificationOutcome : Prop :=
  ∀ (s : State) (n : Nat), 4 ≤ n → n ≤ 256 →
    let c := crc16 (s.rxBytes 0 (n - 2))
    let matched := s.rx (n - 2) = c.extractLsb' 0 8 ∧ s.rx (n - 1) = c.extractLsb' 8 8
    let ended (t : State) (kind : ErrKind) (detail : Byte) : State :=
      { t with
        err := kind, detail := detail, endPhase := .verify, phase := .idle, sub := .poll, busy := false, done := true }
    (s.rx 0 ≠ s.slave → s.verify n = ended s .protocolError 3) ∧
    (s.rx 0 = s.slave → ¬matched → s.verify n = ended { s with crc := c } .protocolError 4) ∧
    (s.rx 0 = s.slave → matched →
      s.verify n = ended { s with crc := c, rxPduLen := BitVec.ofNat 16 (n - 3), rxValid := true } .success 0)

/-- R188, R158, R159, R80: a step of a running command, on an open link, that takes no other input is one round: exactly the
one transport call of its PHASE and SUB, and exactly one charge, at the time of that step; every poll is made with a positive
budget. No other step makes a call. -/
def Obligations.EveryRoundIsOneCallAndOneCharge : Prop :=
  ∀ s t : State, Inv s → step s = .next t →
    let isRound : Prop :=
      s.busy = true ∧ s.resetAsserted = false ∧ s.linkOpen = true ∧ ∀ x rest, s.inputs = x :: rest → x.isRound = true
    (isRound →
      t.calls = s.calls ++ s.nextCall.toList ∧ s.nextCall ≠ none ∧ t.mark = t.now ∧ t.budget.toInt = s.budgetAfter t.now ∧
      (∀ a now rest, s.inputs = .round a now :: rest → t.now = now ∧ t.inputs = rest) ∧
      (s.sub = .poll → 0 < s.budget.toInt)) ∧
    (¬isRound → t.calls = s.calls)

/-- R187: a command's phases follow its sequence, each begins with a poll, and LAST_OP does not change while it runs. -/
def Obligations.PhasesFollowTheSequence : Prop :=
  ∀ s t : State, Inv s → s.busy = true → step s = .next t → t.busy = true →
    t.lastOp = s.lastOp ∧
    (t.phase = s.phase ∨
      t.sub = .poll ∧
        ((s.phase = .flush ∧ t.phase = .send ∧ s.lastOp = 0x26) ∨
         (s.phase = .send ∧ t.phase = .rxHdr ∧ s.lastOp = 0x26) ∨
         (s.phase = .rxHdr ∧ t.phase = .rxRest ∧ (s.lastOp = 0x25 ∨ s.lastOp = 0x26))))

/-- R24, R25, R26, R30, R32, R231: the step that ends a running command, other than by a reset, sets DONE, leaves LAST_OP and COLL,
and records a pair of the tables and the phase that ended it: on Timeout detail 1 the phase it could not enter (R176), VERIFY when
a whole frame was verified or rejected (R180), else the phase it ran. -/
def Obligations.CompletionIsRecorded : Prop :=
  ∀ s t : State, Inv s → s.busy = true → step s = .next t → t.busy = false → t.epoch = s.epoch →
    t.done = true ∧ t.phase = .idle ∧ t.sub = .poll ∧ t.lastOp = s.lastOp ∧ t.coll = s.coll ∧
    (t.err, t.detail) ∈ statusPairs ∧ t.err ≠ .invalidOperation ∧ t.endPhase ≠ .idle ∧
    let outcome := (t.err, t.detail)
    let rejected : List (ErrKind × Byte) := [(.protocolError, 3), (.protocolError, 4)]
    (outcome = (.timeout, 1) →
      (s.phase = .flush ∧ t.endPhase = .send) ∨ (s.phase = .send ∧ t.endPhase = .rxHdr) ∨
        (s.phase = .rxHdr ∧ t.endPhase = .rxRest)) ∧
    (outcome ∈ rejected ∨ (outcome = (.success, 0) ∧ s.phase = .rxRest) → s.phase = .rxRest ∧ t.endPhase = .verify) ∧
    (outcome = (.success, 0) → s.phase ≠ .rxHdr) ∧
    (outcome ≠ (.timeout, 1) → outcome ∉ rejected → outcome ≠ (.success, 0) ∨ s.phase ≠ .rxRest → t.endPhase = s.phase)

/-! ### Reset (spec/70_reset_and_hazards.md) -/

/-- R260, R54: in the step that asserts RESET, in every step while it is asserted and in the step that releases it, every piece of
the block's state takes its reset value; no transport call is made, and bytes already handed over stay sent. An input that leaves
a released RESET released changes nothing. (R260 names the steps while RESET is asserted and the one it is released in: the step
that asserts it, the level that LINK_OPEN keeps and the idle input are the model's choice, log entry 14.) -/
def Obligations.ResetSetsEveryValue : Prop :=
  (∀ (s : State) (b : Bool) (rest : List Input), b = true ∨ s.resetAsserted = true → s.inputs = .reset b :: rest →
    ∃ t, step s = .next t ∧ AtResetValues t ∧ t.resetAsserted = b ∧ t.inputs = rest ∧ t.linkOpen = s.linkOpen ∧
      t.calls = s.calls ∧ t.txStream = s.txStream) ∧
  (∀ (s : State) (rest : List Input), s.resetAsserted = false → s.inputs = .reset false :: rest →
    step s = .next { s with inputs := rest }) ∧
  ∀ s t : State, s.resetAsserted = true → step s = .next t →
    AtResetValues t ∧ t.calls = s.calls ∧ t.txStream = s.txStream

/-- R54, R262: right after reset every piece of state holds its value and STATUS reads 0x00000010; and every buffer byte, which R54
leaves unspecified, is the free value of an unwritten byte of the first epoch (the model's choice, log entries 1 and 5). -/
def Obligations.ResetValues : Prop :=
  AtResetValues State.reset ∧ State.reset.statusWord = 0x00000010 ∧
  ∀ a, State.reset.byteAt a = Config.unwrittenByte 0 a

/-! ### The whole machine -/

/-- The invariant holds right after reset. -/
def Obligations.ResetMeetsTheInvariant : Prop := Inv State.reset ∧ StreamsOk State.reset

/-- R24, R27, R29, R41, R42, R45, R51, R60, R92, R159, R187, U12: every step keeps the invariant of the block. -/
def Obligations.StepKeepsTheInvariant : Prop := ∀ s t : State, Inv s → step s = .next t → Inv t

/-- R80, R42, R43: bytes enter the transmit stream in TXBUF order, and received bytes are stored in stream order: every step
keeps that relation between the buffers, their counters and the streams. -/
def Obligations.StepKeepsTheStreamOrder : Prop :=
  ∀ s t : State, Inv s → StreamsOk s → step s = .next t → StreamsOk t

/-- R281, R63, R64: the block has no fault, and nothing is refused but a host access outside R63: a step goes on when its input, if
it has one, is admitted, and refuses it otherwise. -/
def Obligations.NoStepFaults : Prop :=
  ∀ s : State, Inv s →
    ((∀ x rest, s.inputs = x :: rest → x.admitted) → ∃ t, step s = .next t) ∧
    ∀ x rest, s.inputs = x :: rest → ¬x.admitted → x.isHost = true ∧ step s = .refused .hostAccess

/-- R27, R90: RX_VALID is 1 after a step only when it was, with the same frame still in RXBUF, or when the step verified a
frame: from the slave addressed, with the right CRC. -/
def Obligations.FramesAreValidOnlyByVerification : Prop :=
  ∀ s t : State, Inv s → step s = .next t → t.rxValid = true →
    (s.rxValid = true ∧ t.rxPduLen = s.rxPduLen ∧ ∀ k, t.rx k = s.rx k) ∨
    (t.done = true ∧ t.err = .success ∧ t.endPhase = .verify ∧ t.rx 0 = t.slave ∧
      let n := t.rxPduLen.toNat + 3
      t.crc = crc16 (t.rxBytes 0 (n - 2)) ∧ t.rx (n - 2) = t.crc.extractLsb' 0 8 ∧
        t.rx (n - 1) = t.crc.extractLsb' 8 8)

/-- R191, R275, R27: the accept of FRAME.VERIFY, FRAME.RECV or FRAME.XACT leaves a valid frame only if the command succeeded in that
step, whatever check ended it (for the accept-time checks: log entry 10); and when a running receive or transaction ends, other
than by a reset, there is a valid frame exactly when it succeeded. -/
def Obligations.FailureLeavesNoFrame : Prop :=
  (∀ (s : State) (w : Word), Idle s → w.extractLsb' 0 8 ∈ ([0x22, 0x25, 0x26] : List Byte) →
    ∃ t, acceptCommand w s = .next t ∧ t.lastOp = w.extractLsb' 0 8 ∧ t.done = !t.busy ∧
      (t.done = true ∧ t.err = .success → w.extractLsb' 0 8 = 0x22 ∧ t.rxValid = true ∧ 1 ≤ t.rxPduLen.toNat) ∧
      (t.busy = true ∨ t.err ≠ .success → t.rxValid = false ∧ t.rxPduLen = 0)) ∧
  ∀ s t : State, Inv s → s.busy = true → s.lastOp = 0x25 ∨ s.lastOp = 0x26 → step s = .next t → t.busy = false →
    t.epoch = s.epoch →
    (t.err = .success → t.rxValid = true ∧ 2 ≤ t.rxPduLen.toNat) ∧
    (t.err ≠ .success → t.rxValid = false ∧ t.rxPduLen = 0)

/-- R271: a running command's ARG, SLAVE, FLUSH_POLL_MS and TXBUF cannot change under it, whatever the host, the transport,
the time source and the lifecycle do, short of a reset. -/
def Obligations.RunningCommandKeepsItsOperands : Prop :=
  ∀ s t : State, s.busy = true → step s = .next t → t.epoch = s.epoch →
    t.arg = s.arg ∧ t.slave = s.slave ∧ t.flushPollMs = s.flushPollMs ∧ ∀ i, i < 260 → t.tx i = s.tx i

/-- R277: a running command ends, whatever the transport answers, the host accesses and the lifecycle does, once the times of its
rounds have charged its budget in sum and one more round comes. In a run in which the charged sum grows without bound, R277's
fairness, such rounds come; this is its form for the finite list of inputs a state holds (log entry 16). -/
def Obligations.CommandsEndWhenTimeAdvances : Prop :=
  ∀ (s : State) (before after rest : List Input),
    Inv s → s.busy = true → s.resetAsserted = false → s.inputs = before ++ after ++ rest →
    (∀ x ∈ before ++ after, x.admitted ∧ x.isReset = false) →
    s.budget.toInt ≤ chargedTime s.mark before → after.any Input.isRound = true →
    ∃ k t, k ≤ (before ++ after).length ∧ runSteps k s = .next t ∧ t.busy = false ∧ t.done = true

/-- R186, R187 and program P3 of spec/95_test_vectors.md, for every PDU, every answer and every time: FRAME.XACT on an idle
line sends the ADU of its PDU, and a correct answer that comes within the budget is received, verified and given back. (The write
takes the whole ADU and each read gives all it was asked for; SendRound and ReceiveRound say what partial ones do.) -/
def Obligations.TransactionSucceeds : Prop :=
  ∀ (s : State) (n : Half) (fc bc : Byte) (payload : List Byte) (t0 t1 t2 t3 t4 t5 t6 t7 : Word) (rest : List Input),
    let request := s.slave :: s.txBytes 1 (n.toNat + 1)
    let answer := s.slave :: fc :: bc :: payload
    let crcBytes (c : Half) : List Byte := [c.extractLsb' 0 8, c.extractLsb' 8 8]
    Idle s → s.resetAsserted = false → s.linkOpen = true → 1 ≤ n.toNat → n.toNat ≤ 253 →
    findPduLength fc bc = .ok (payload.length + 2) →
    (elapsedThrough s.mark [t1, t2, t3, t4, t5, t6, t7] : Int) < s.budget.toInt →
    s.inputs =
      commandInput t0 (.frameXact n) :: .round (.poll .idle) t1 :: .round (.poll .ready) t2 ::
        .round (.write (.ok (n.toNat + 3))) t3 :: .round (.poll .ready) t4 :: .round (.read (.ok [s.slave, fc, bc])) t5 ::
        .round (.poll .ready) t6 :: .round (.read (.ok (payload ++ crcBytes (crc16 answer)))) t7 :: rest →
    ∃ t, runSteps 8 s = .next t ∧ t.inputs = rest ∧
      t.busy = false ∧ t.done = true ∧ t.err = .success ∧ t.endPhase = .verify ∧ t.lastOp = 0x26 ∧ t.coll = false ∧
      t.txStream = s.txStream ++ request ++ crcBytes (crc16 request) ∧
      t.rxValid = true ∧ t.rxPduLen.toNat = payload.length + 2 ∧
      t.rxBytes 1 (payload.length + 3) = fc :: bc :: payload ∧
      t.budget.toInt = s.budget.toInt - elapsedThrough s.mark [t1, t2, t3, t4, t5, t6, t7]
end

