-- ==== Sys2Proof/Laws/State.lean ====
section
/-! SUPPORT. What each named update of the state leaves in each field, one lemma per field per update. -/

namespace Sys2Proof.Machine

/-! ### The start of an accept (R233) -/

@[simp] theorem accept_busy (s : State) (op : Byte) : (s.accept op).busy = s.busy := rfl
@[simp] theorem accept_done (s : State) (op : Byte) : (s.accept op).done = false := rfl
@[simp] theorem accept_coll (s : State) (op : Byte) : (s.accept op).coll = false := rfl
@[simp] theorem accept_rxValid (s : State) (op : Byte) :
    (s.accept op).rxValid = if op ∈ receiveOps then false else s.rxValid := rfl
@[simp] theorem accept_err (s : State) (op : Byte) : (s.accept op).err = .success := rfl
@[simp] theorem accept_endPhase (s : State) (op : Byte) : (s.accept op).endPhase = .idle := rfl
@[simp] theorem accept_detail (s : State) (op : Byte) : (s.accept op).detail = 0 := rfl
@[simp] theorem accept_lastOp (s : State) (op : Byte) : (s.accept op).lastOp = op := rfl
@[simp] theorem accept_arg (s : State) (op : Byte) : (s.accept op).arg = s.arg := rfl
@[simp] theorem accept_slave (s : State) (op : Byte) : (s.accept op).slave = s.slave := rfl
@[simp] theorem accept_budget (s : State) (op : Byte) : (s.accept op).budget = s.budget := rfl
@[simp] theorem accept_mark (s : State) (op : Byte) : (s.accept op).mark = s.mark := rfl
@[simp] theorem accept_crc (s : State) (op : Byte) : (s.accept op).crc = s.crc := rfl
@[simp] theorem accept_result (s : State) (op : Byte) : (s.accept op).result = s.result := rfl
@[simp] theorem accept_txLen (s : State) (op : Byte) : (s.accept op).txLen = s.txLen := rfl
@[simp] theorem accept_txWritten (s : State) (op : Byte) : (s.accept op).txWritten = s.txWritten := rfl
@[simp] theorem accept_rxCount (s : State) (op : Byte) : (s.accept op).rxCount = s.rxCount := rfl
@[simp] theorem accept_rxNeed (s : State) (op : Byte) : (s.accept op).rxNeed = s.rxNeed := rfl
@[simp] theorem accept_rxPduLen (s : State) (op : Byte) :
    (s.accept op).rxPduLen = if op ∈ receiveOps then 0 else s.rxPduLen := rfl
@[simp] theorem accept_flushCount (s : State) (op : Byte) : (s.accept op).flushCount = s.flushCount := rfl
@[simp] theorem accept_flushPollMs (s : State) (op : Byte) : (s.accept op).flushPollMs = s.flushPollMs := rfl
@[simp] theorem accept_phase (s : State) (op : Byte) : (s.accept op).phase = s.phase := rfl
@[simp] theorem accept_sub (s : State) (op : Byte) : (s.accept op).sub = s.sub := rfl
@[simp] theorem accept_mem (s : State) (op : Byte) : (s.accept op).mem = s.mem := rfl
@[simp] theorem accept_linkOpen (s : State) (op : Byte) : (s.accept op).linkOpen = s.linkOpen := rfl
@[simp] theorem accept_now (s : State) (op : Byte) : (s.accept op).now = s.now := rfl
@[simp] theorem accept_resetAsserted (s : State) (op : Byte) : (s.accept op).resetAsserted = s.resetAsserted := rfl
@[simp] theorem accept_inputs (s : State) (op : Byte) : (s.accept op).inputs = s.inputs := rfl
@[simp] theorem accept_hostData (s : State) (op : Byte) : (s.accept op).hostData = s.hostData := rfl
@[simp] theorem accept_calls (s : State) (op : Byte) : (s.accept op).calls = s.calls := rfl
@[simp] theorem accept_txStream (s : State) (op : Byte) : (s.accept op).txStream = s.txStream := rfl
@[simp] theorem accept_rxStream (s : State) (op : Byte) : (s.accept op).rxStream = s.rxStream := rfl
@[simp] theorem accept_epoch (s : State) (op : Byte) : (s.accept op).epoch = s.epoch := rfl
@[simp] theorem accept_draws (s : State) (op : Byte) : (s.accept op).draws = s.draws := rfl

/-! ### Completion (R235) -/

@[simp] theorem finish_busy (s : State) (k : ErrKind) (d : Byte) : (s.finish k d).busy = false := rfl
@[simp] theorem finish_done (s : State) (k : ErrKind) (d : Byte) : (s.finish k d).done = true := rfl
@[simp] theorem finish_coll (s : State) (k : ErrKind) (d : Byte) : (s.finish k d).coll = s.coll := rfl
@[simp] theorem finish_rxValid (s : State) (k : ErrKind) (d : Byte) : (s.finish k d).rxValid = s.rxValid := rfl
@[simp] theorem finish_err (s : State) (k : ErrKind) (d : Byte) : (s.finish k d).err = k := rfl
@[simp] theorem finish_endPhase (s : State) (k : ErrKind) (d : Byte) : (s.finish k d).endPhase = s.phase := rfl
@[simp] theorem finish_detail (s : State) (k : ErrKind) (d : Byte) : (s.finish k d).detail = d := rfl
@[simp] theorem finish_lastOp (s : State) (k : ErrKind) (d : Byte) : (s.finish k d).lastOp = s.lastOp := rfl
@[simp] theorem finish_arg (s : State) (k : ErrKind) (d : Byte) : (s.finish k d).arg = s.arg := rfl
@[simp] theorem finish_slave (s : State) (k : ErrKind) (d : Byte) : (s.finish k d).slave = s.slave := rfl
@[simp] theorem finish_budget (s : State) (k : ErrKind) (d : Byte) : (s.finish k d).budget = s.budget := rfl
@[simp] theorem finish_mark (s : State) (k : ErrKind) (d : Byte) : (s.finish k d).mark = s.mark := rfl
@[simp] theorem finish_crc (s : State) (k : ErrKind) (d : Byte) : (s.finish k d).crc = s.crc := rfl
@[simp] theorem finish_result (s : State) (k : ErrKind) (d : Byte) : (s.finish k d).result = s.result := rfl
@[simp] theorem finish_txLen (s : State) (k : ErrKind) (d : Byte) : (s.finish k d).txLen = s.txLen := rfl
@[simp] theorem finish_txWritten (s : State) (k : ErrKind) (d : Byte) : (s.finish k d).txWritten = s.txWritten := rfl
@[simp] theorem finish_rxCount (s : State) (k : ErrKind) (d : Byte) : (s.finish k d).rxCount = s.rxCount := rfl
@[simp] theorem finish_rxNeed (s : State) (k : ErrKind) (d : Byte) : (s.finish k d).rxNeed = s.rxNeed := rfl
@[simp] theorem finish_rxPduLen (s : State) (k : ErrKind) (d : Byte) : (s.finish k d).rxPduLen = s.rxPduLen := rfl
@[simp] theorem finish_flushCount (s : State) (k : ErrKind) (d : Byte) : (s.finish k d).flushCount = s.flushCount := rfl
@[simp] theorem finish_flushPollMs (s : State) (k : ErrKind) (d : Byte) : (s.finish k d).flushPollMs = s.flushPollMs := rfl
@[simp] theorem finish_phase (s : State) (k : ErrKind) (d : Byte) : (s.finish k d).phase = .idle := rfl
@[simp] theorem finish_sub (s : State) (k : ErrKind) (d : Byte) : (s.finish k d).sub = .poll := rfl
@[simp] theorem finish_mem (s : State) (k : ErrKind) (d : Byte) : (s.finish k d).mem = s.mem := rfl
@[simp] theorem finish_linkOpen (s : State) (k : ErrKind) (d : Byte) : (s.finish k d).linkOpen = s.linkOpen := rfl
@[simp] theorem finish_now (s : State) (k : ErrKind) (d : Byte) : (s.finish k d).now = s.now := rfl
@[simp] theorem finish_resetAsserted (s : State) (k : ErrKind) (d : Byte) : (s.finish k d).resetAsserted = s.resetAsserted := rfl
@[simp] theorem finish_inputs (s : State) (k : ErrKind) (d : Byte) : (s.finish k d).inputs = s.inputs := rfl
@[simp] theorem finish_hostData (s : State) (k : ErrKind) (d : Byte) : (s.finish k d).hostData = s.hostData := rfl
@[simp] theorem finish_calls (s : State) (k : ErrKind) (d : Byte) : (s.finish k d).calls = s.calls := rfl
@[simp] theorem finish_txStream (s : State) (k : ErrKind) (d : Byte) : (s.finish k d).txStream = s.txStream := rfl
@[simp] theorem finish_rxStream (s : State) (k : ErrKind) (d : Byte) : (s.finish k d).rxStream = s.rxStream := rfl
@[simp] theorem finish_epoch (s : State) (k : ErrKind) (d : Byte) : (s.finish k d).epoch = s.epoch := rfl
@[simp] theorem finish_draws (s : State) (k : ErrKind) (d : Byte) : (s.finish k d).draws = s.draws := rfl

/-! ### Successful completion (R235) -/

@[simp] theorem finishOk_busy (s : State) : (s.finishOk).busy = false := rfl
@[simp] theorem finishOk_done (s : State) : (s.finishOk).done = true := rfl
@[simp] theorem finishOk_coll (s : State) : (s.finishOk).coll = s.coll := rfl
@[simp] theorem finishOk_rxValid (s : State) : (s.finishOk).rxValid = s.rxValid := rfl
@[simp] theorem finishOk_err (s : State) : (s.finishOk).err = .success := rfl
@[simp] theorem finishOk_endPhase (s : State) : (s.finishOk).endPhase = s.phase := rfl
@[simp] theorem finishOk_detail (s : State) : (s.finishOk).detail = 0 := rfl
@[simp] theorem finishOk_lastOp (s : State) : (s.finishOk).lastOp = s.lastOp := rfl
@[simp] theorem finishOk_arg (s : State) : (s.finishOk).arg = s.arg := rfl
@[simp] theorem finishOk_slave (s : State) : (s.finishOk).slave = s.slave := rfl
@[simp] theorem finishOk_budget (s : State) : (s.finishOk).budget = s.budget := rfl
@[simp] theorem finishOk_mark (s : State) : (s.finishOk).mark = s.mark := rfl
@[simp] theorem finishOk_crc (s : State) : (s.finishOk).crc = s.crc := rfl
@[simp] theorem finishOk_result (s : State) : (s.finishOk).result = s.result := rfl
@[simp] theorem finishOk_txLen (s : State) : (s.finishOk).txLen = s.txLen := rfl
@[simp] theorem finishOk_txWritten (s : State) : (s.finishOk).txWritten = s.txWritten := rfl
@[simp] theorem finishOk_rxCount (s : State) : (s.finishOk).rxCount = s.rxCount := rfl
@[simp] theorem finishOk_rxNeed (s : State) : (s.finishOk).rxNeed = s.rxNeed := rfl
@[simp] theorem finishOk_rxPduLen (s : State) : (s.finishOk).rxPduLen = s.rxPduLen := rfl
@[simp] theorem finishOk_flushCount (s : State) : (s.finishOk).flushCount = s.flushCount := rfl
@[simp] theorem finishOk_flushPollMs (s : State) : (s.finishOk).flushPollMs = s.flushPollMs := rfl
@[simp] theorem finishOk_phase (s : State) : (s.finishOk).phase = .idle := rfl
@[simp] theorem finishOk_sub (s : State) : (s.finishOk).sub = .poll := rfl
@[simp] theorem finishOk_mem (s : State) : (s.finishOk).mem = s.mem := rfl
@[simp] theorem finishOk_linkOpen (s : State) : (s.finishOk).linkOpen = s.linkOpen := rfl
@[simp] theorem finishOk_now (s : State) : (s.finishOk).now = s.now := rfl
@[simp] theorem finishOk_resetAsserted (s : State) : (s.finishOk).resetAsserted = s.resetAsserted := rfl
@[simp] theorem finishOk_inputs (s : State) : (s.finishOk).inputs = s.inputs := rfl
@[simp] theorem finishOk_hostData (s : State) : (s.finishOk).hostData = s.hostData := rfl
@[simp] theorem finishOk_calls (s : State) : (s.finishOk).calls = s.calls := rfl
@[simp] theorem finishOk_txStream (s : State) : (s.finishOk).txStream = s.txStream := rfl
@[simp] theorem finishOk_rxStream (s : State) : (s.finishOk).rxStream = s.rxStream := rfl
@[simp] theorem finishOk_epoch (s : State) : (s.finishOk).epoch = s.epoch := rfl
@[simp] theorem finishOk_draws (s : State) : (s.finishOk).draws = s.draws := rfl

/-! ### The charge (R151) -/

@[simp] theorem charge_busy (s : State) : (s.charge).busy = s.busy := rfl
@[simp] theorem charge_done (s : State) : (s.charge).done = s.done := rfl
@[simp] theorem charge_coll (s : State) : (s.charge).coll = s.coll := rfl
@[simp] theorem charge_rxValid (s : State) : (s.charge).rxValid = s.rxValid := rfl
@[simp] theorem charge_err (s : State) : (s.charge).err = s.err := rfl
@[simp] theorem charge_endPhase (s : State) : (s.charge).endPhase = s.endPhase := rfl
@[simp] theorem charge_detail (s : State) : (s.charge).detail = s.detail := rfl
@[simp] theorem charge_lastOp (s : State) : (s.charge).lastOp = s.lastOp := rfl
@[simp] theorem charge_arg (s : State) : (s.charge).arg = s.arg := rfl
@[simp] theorem charge_slave (s : State) : (s.charge).slave = s.slave := rfl
@[simp] theorem charge_budget (s : State) : (s.charge).budget = BitVec.ofInt 32 (clamp32 (s.budget.toInt - s.elapsed)) := rfl
@[simp] theorem charge_mark (s : State) : (s.charge).mark = s.now := rfl
@[simp] theorem charge_crc (s : State) : (s.charge).crc = s.crc := rfl
@[simp] theorem charge_result (s : State) : (s.charge).result = s.result := rfl
@[simp] theorem charge_txLen (s : State) : (s.charge).txLen = s.txLen := rfl
@[simp] theorem charge_txWritten (s : State) : (s.charge).txWritten = s.txWritten := rfl
@[simp] theorem charge_rxCount (s : State) : (s.charge).rxCount = s.rxCount := rfl
@[simp] theorem charge_rxNeed (s : State) : (s.charge).rxNeed = s.rxNeed := rfl
@[simp] theorem charge_rxPduLen (s : State) : (s.charge).rxPduLen = s.rxPduLen := rfl
@[simp] theorem charge_flushCount (s : State) : (s.charge).flushCount = s.flushCount := rfl
@[simp] theorem charge_flushPollMs (s : State) : (s.charge).flushPollMs = s.flushPollMs := rfl
@[simp] theorem charge_phase (s : State) : (s.charge).phase = s.phase := rfl
@[simp] theorem charge_sub (s : State) : (s.charge).sub = s.sub := rfl
@[simp] theorem charge_mem (s : State) : (s.charge).mem = s.mem := rfl
@[simp] theorem charge_linkOpen (s : State) : (s.charge).linkOpen = s.linkOpen := rfl
@[simp] theorem charge_now (s : State) : (s.charge).now = s.now := rfl
@[simp] theorem charge_resetAsserted (s : State) : (s.charge).resetAsserted = s.resetAsserted := rfl
@[simp] theorem charge_inputs (s : State) : (s.charge).inputs = s.inputs := rfl
@[simp] theorem charge_hostData (s : State) : (s.charge).hostData = s.hostData := rfl
@[simp] theorem charge_calls (s : State) : (s.charge).calls = s.calls := rfl
@[simp] theorem charge_txStream (s : State) : (s.charge).txStream = s.txStream := rfl
@[simp] theorem charge_rxStream (s : State) : (s.charge).rxStream = s.rxStream := rfl
@[simp] theorem charge_epoch (s : State) : (s.charge).epoch = s.epoch := rfl
@[simp] theorem charge_draws (s : State) : (s.charge).draws = s.draws := rfl

/-! ### A transport call and its charge (R158) -/

@[simp] theorem call_busy (s : State) (c : Call) : (s.call c).busy = s.busy := rfl
@[simp] theorem call_done (s : State) (c : Call) : (s.call c).done = s.done := rfl
@[simp] theorem call_coll (s : State) (c : Call) : (s.call c).coll = s.coll := rfl
@[simp] theorem call_rxValid (s : State) (c : Call) : (s.call c).rxValid = s.rxValid := rfl
@[simp] theorem call_err (s : State) (c : Call) : (s.call c).err = s.err := rfl
@[simp] theorem call_endPhase (s : State) (c : Call) : (s.call c).endPhase = s.endPhase := rfl
@[simp] theorem call_detail (s : State) (c : Call) : (s.call c).detail = s.detail := rfl
@[simp] theorem call_lastOp (s : State) (c : Call) : (s.call c).lastOp = s.lastOp := rfl
@[simp] theorem call_arg (s : State) (c : Call) : (s.call c).arg = s.arg := rfl
@[simp] theorem call_slave (s : State) (c : Call) : (s.call c).slave = s.slave := rfl
@[simp] theorem call_budget (s : State) (c : Call) : (s.call c).budget = BitVec.ofInt 32 (clamp32 (s.budget.toInt - s.elapsed)) := rfl
@[simp] theorem call_mark (s : State) (c : Call) : (s.call c).mark = s.now := rfl
@[simp] theorem call_crc (s : State) (c : Call) : (s.call c).crc = s.crc := rfl
@[simp] theorem call_result (s : State) (c : Call) : (s.call c).result = s.result := rfl
@[simp] theorem call_txLen (s : State) (c : Call) : (s.call c).txLen = s.txLen := rfl
@[simp] theorem call_txWritten (s : State) (c : Call) : (s.call c).txWritten = s.txWritten := rfl
@[simp] theorem call_rxCount (s : State) (c : Call) : (s.call c).rxCount = s.rxCount := rfl
@[simp] theorem call_rxNeed (s : State) (c : Call) : (s.call c).rxNeed = s.rxNeed := rfl
@[simp] theorem call_rxPduLen (s : State) (c : Call) : (s.call c).rxPduLen = s.rxPduLen := rfl
@[simp] theorem call_flushCount (s : State) (c : Call) : (s.call c).flushCount = s.flushCount := rfl
@[simp] theorem call_flushPollMs (s : State) (c : Call) : (s.call c).flushPollMs = s.flushPollMs := rfl
@[simp] theorem call_phase (s : State) (c : Call) : (s.call c).phase = s.phase := rfl
@[simp] theorem call_sub (s : State) (c : Call) : (s.call c).sub = s.sub := rfl
@[simp] theorem call_mem (s : State) (c : Call) : (s.call c).mem = s.mem := rfl
@[simp] theorem call_linkOpen (s : State) (c : Call) : (s.call c).linkOpen = s.linkOpen := rfl
@[simp] theorem call_now (s : State) (c : Call) : (s.call c).now = s.now := rfl
@[simp] theorem call_resetAsserted (s : State) (c : Call) : (s.call c).resetAsserted = s.resetAsserted := rfl
@[simp] theorem call_inputs (s : State) (c : Call) : (s.call c).inputs = s.inputs := rfl
@[simp] theorem call_hostData (s : State) (c : Call) : (s.call c).hostData = s.hostData := rfl
@[simp] theorem call_calls (s : State) (c : Call) : (s.call c).calls = s.calls ++ [c] := rfl
@[simp] theorem call_txStream (s : State) (c : Call) : (s.call c).txStream = s.txStream := rfl
@[simp] theorem call_rxStream (s : State) (c : Call) : (s.call c).rxStream = s.rxStream := rfl
@[simp] theorem call_epoch (s : State) (c : Call) : (s.call c).epoch = s.epoch := rfl
@[simp] theorem call_draws (s : State) (c : Call) : (s.call c).draws = s.draws + 1 := rfl

/-! ### One buffer byte written (R60) -/

@[simp] theorem setByte_busy (s : State) (a : Nat) (b : Byte) : (s.setByte a b).busy = s.busy := rfl
@[simp] theorem setByte_done (s : State) (a : Nat) (b : Byte) : (s.setByte a b).done = s.done := rfl
@[simp] theorem setByte_coll (s : State) (a : Nat) (b : Byte) : (s.setByte a b).coll = s.coll := rfl
@[simp] theorem setByte_rxValid (s : State) (a : Nat) (b : Byte) : (s.setByte a b).rxValid = s.rxValid := rfl
@[simp] theorem setByte_err (s : State) (a : Nat) (b : Byte) : (s.setByte a b).err = s.err := rfl
@[simp] theorem setByte_endPhase (s : State) (a : Nat) (b : Byte) : (s.setByte a b).endPhase = s.endPhase := rfl
@[simp] theorem setByte_detail (s : State) (a : Nat) (b : Byte) : (s.setByte a b).detail = s.detail := rfl
@[simp] theorem setByte_lastOp (s : State) (a : Nat) (b : Byte) : (s.setByte a b).lastOp = s.lastOp := rfl
@[simp] theorem setByte_arg (s : State) (a : Nat) (b : Byte) : (s.setByte a b).arg = s.arg := rfl
@[simp] theorem setByte_slave (s : State) (a : Nat) (b : Byte) : (s.setByte a b).slave = s.slave := rfl
@[simp] theorem setByte_budget (s : State) (a : Nat) (b : Byte) : (s.setByte a b).budget = s.budget := rfl
@[simp] theorem setByte_mark (s : State) (a : Nat) (b : Byte) : (s.setByte a b).mark = s.mark := rfl
@[simp] theorem setByte_crc (s : State) (a : Nat) (b : Byte) : (s.setByte a b).crc = s.crc := rfl
@[simp] theorem setByte_result (s : State) (a : Nat) (b : Byte) : (s.setByte a b).result = s.result := rfl
@[simp] theorem setByte_txLen (s : State) (a : Nat) (b : Byte) : (s.setByte a b).txLen = s.txLen := rfl
@[simp] theorem setByte_txWritten (s : State) (a : Nat) (b : Byte) : (s.setByte a b).txWritten = s.txWritten := rfl
@[simp] theorem setByte_rxCount (s : State) (a : Nat) (b : Byte) : (s.setByte a b).rxCount = s.rxCount := rfl
@[simp] theorem setByte_rxNeed (s : State) (a : Nat) (b : Byte) : (s.setByte a b).rxNeed = s.rxNeed := rfl
@[simp] theorem setByte_rxPduLen (s : State) (a : Nat) (b : Byte) : (s.setByte a b).rxPduLen = s.rxPduLen := rfl
@[simp] theorem setByte_flushCount (s : State) (a : Nat) (b : Byte) : (s.setByte a b).flushCount = s.flushCount := rfl
@[simp] theorem setByte_flushPollMs (s : State) (a : Nat) (b : Byte) : (s.setByte a b).flushPollMs = s.flushPollMs := rfl
@[simp] theorem setByte_phase (s : State) (a : Nat) (b : Byte) : (s.setByte a b).phase = s.phase := rfl
@[simp] theorem setByte_sub (s : State) (a : Nat) (b : Byte) : (s.setByte a b).sub = s.sub := rfl
@[simp] theorem setByte_mem (s : State) (a : Nat) (b : Byte) : (s.setByte a b).mem = Memory.write a b s.mem := rfl
@[simp] theorem setByte_linkOpen (s : State) (a : Nat) (b : Byte) : (s.setByte a b).linkOpen = s.linkOpen := rfl
@[simp] theorem setByte_now (s : State) (a : Nat) (b : Byte) : (s.setByte a b).now = s.now := rfl
@[simp] theorem setByte_resetAsserted (s : State) (a : Nat) (b : Byte) : (s.setByte a b).resetAsserted = s.resetAsserted := rfl
@[simp] theorem setByte_inputs (s : State) (a : Nat) (b : Byte) : (s.setByte a b).inputs = s.inputs := rfl
@[simp] theorem setByte_hostData (s : State) (a : Nat) (b : Byte) : (s.setByte a b).hostData = s.hostData := rfl
@[simp] theorem setByte_calls (s : State) (a : Nat) (b : Byte) : (s.setByte a b).calls = s.calls := rfl
@[simp] theorem setByte_txStream (s : State) (a : Nat) (b : Byte) : (s.setByte a b).txStream = s.txStream := rfl
@[simp] theorem setByte_rxStream (s : State) (a : Nat) (b : Byte) : (s.setByte a b).rxStream = s.rxStream := rfl
@[simp] theorem setByte_epoch (s : State) (a : Nat) (b : Byte) : (s.setByte a b).epoch = s.epoch := rfl
@[simp] theorem setByte_draws (s : State) (a : Nat) (b : Byte) : (s.setByte a b).draws = s.draws := rfl

/-! ### Single registers -/

@[simp] theorem setCrc_busy (s : State) (c : Half) : (s.setCrc c).busy = s.busy := rfl
@[simp] theorem setCrc_done (s : State) (c : Half) : (s.setCrc c).done = s.done := rfl
@[simp] theorem setCrc_coll (s : State) (c : Half) : (s.setCrc c).coll = s.coll := rfl
@[simp] theorem setCrc_rxValid (s : State) (c : Half) : (s.setCrc c).rxValid = s.rxValid := rfl
@[simp] theorem setCrc_err (s : State) (c : Half) : (s.setCrc c).err = s.err := rfl
@[simp] theorem setCrc_endPhase (s : State) (c : Half) : (s.setCrc c).endPhase = s.endPhase := rfl
@[simp] theorem setCrc_detail (s : State) (c : Half) : (s.setCrc c).detail = s.detail := rfl
@[simp] theorem setCrc_lastOp (s : State) (c : Half) : (s.setCrc c).lastOp = s.lastOp := rfl
@[simp] theorem setCrc_arg (s : State) (c : Half) : (s.setCrc c).arg = s.arg := rfl
@[simp] theorem setCrc_slave (s : State) (c : Half) : (s.setCrc c).slave = s.slave := rfl
@[simp] theorem setCrc_budget (s : State) (c : Half) : (s.setCrc c).budget = s.budget := rfl
@[simp] theorem setCrc_mark (s : State) (c : Half) : (s.setCrc c).mark = s.mark := rfl
@[simp] theorem setCrc_crc (s : State) (c : Half) : (s.setCrc c).crc = c := rfl
@[simp] theorem setCrc_result (s : State) (c : Half) : (s.setCrc c).result = s.result := rfl
@[simp] theorem setCrc_txLen (s : State) (c : Half) : (s.setCrc c).txLen = s.txLen := rfl
@[simp] theorem setCrc_txWritten (s : State) (c : Half) : (s.setCrc c).txWritten = s.txWritten := rfl
@[simp] theorem setCrc_rxCount (s : State) (c : Half) : (s.setCrc c).rxCount = s.rxCount := rfl
@[simp] theorem setCrc_rxNeed (s : State) (c : Half) : (s.setCrc c).rxNeed = s.rxNeed := rfl
@[simp] theorem setCrc_rxPduLen (s : State) (c : Half) : (s.setCrc c).rxPduLen = s.rxPduLen := rfl
@[simp] theorem setCrc_flushCount (s : State) (c : Half) : (s.setCrc c).flushCount = s.flushCount := rfl
@[simp] theorem setCrc_flushPollMs (s : State) (c : Half) : (s.setCrc c).flushPollMs = s.flushPollMs := rfl
@[simp] theorem setCrc_phase (s : State) (c : Half) : (s.setCrc c).phase = s.phase := rfl
@[simp] theorem setCrc_sub (s : State) (c : Half) : (s.setCrc c).sub = s.sub := rfl
@[simp] theorem setCrc_mem (s : State) (c : Half) : (s.setCrc c).mem = s.mem := rfl
@[simp] theorem setCrc_linkOpen (s : State) (c : Half) : (s.setCrc c).linkOpen = s.linkOpen := rfl
@[simp] theorem setCrc_now (s : State) (c : Half) : (s.setCrc c).now = s.now := rfl
@[simp] theorem setCrc_resetAsserted (s : State) (c : Half) : (s.setCrc c).resetAsserted = s.resetAsserted := rfl
@[simp] theorem setCrc_inputs (s : State) (c : Half) : (s.setCrc c).inputs = s.inputs := rfl
@[simp] theorem setCrc_hostData (s : State) (c : Half) : (s.setCrc c).hostData = s.hostData := rfl
@[simp] theorem setCrc_calls (s : State) (c : Half) : (s.setCrc c).calls = s.calls := rfl
@[simp] theorem setCrc_txStream (s : State) (c : Half) : (s.setCrc c).txStream = s.txStream := rfl
@[simp] theorem setCrc_rxStream (s : State) (c : Half) : (s.setCrc c).rxStream = s.rxStream := rfl
@[simp] theorem setCrc_epoch (s : State) (c : Half) : (s.setCrc c).epoch = s.epoch := rfl
@[simp] theorem setCrc_draws (s : State) (c : Half) : (s.setCrc c).draws = s.draws := rfl

/-! ### RESULT (R39) -/

@[simp] theorem setResult_busy (s : State) (r : Word) : (s.setResult r).busy = s.busy := rfl
@[simp] theorem setResult_done (s : State) (r : Word) : (s.setResult r).done = s.done := rfl
@[simp] theorem setResult_coll (s : State) (r : Word) : (s.setResult r).coll = s.coll := rfl
@[simp] theorem setResult_rxValid (s : State) (r : Word) : (s.setResult r).rxValid = s.rxValid := rfl
@[simp] theorem setResult_err (s : State) (r : Word) : (s.setResult r).err = s.err := rfl
@[simp] theorem setResult_endPhase (s : State) (r : Word) : (s.setResult r).endPhase = s.endPhase := rfl
@[simp] theorem setResult_detail (s : State) (r : Word) : (s.setResult r).detail = s.detail := rfl
@[simp] theorem setResult_lastOp (s : State) (r : Word) : (s.setResult r).lastOp = s.lastOp := rfl
@[simp] theorem setResult_arg (s : State) (r : Word) : (s.setResult r).arg = s.arg := rfl
@[simp] theorem setResult_slave (s : State) (r : Word) : (s.setResult r).slave = s.slave := rfl
@[simp] theorem setResult_budget (s : State) (r : Word) : (s.setResult r).budget = s.budget := rfl
@[simp] theorem setResult_mark (s : State) (r : Word) : (s.setResult r).mark = s.mark := rfl
@[simp] theorem setResult_crc (s : State) (r : Word) : (s.setResult r).crc = s.crc := rfl
@[simp] theorem setResult_result (s : State) (r : Word) : (s.setResult r).result = r := rfl
@[simp] theorem setResult_txLen (s : State) (r : Word) : (s.setResult r).txLen = s.txLen := rfl
@[simp] theorem setResult_txWritten (s : State) (r : Word) : (s.setResult r).txWritten = s.txWritten := rfl
@[simp] theorem setResult_rxCount (s : State) (r : Word) : (s.setResult r).rxCount = s.rxCount := rfl
@[simp] theorem setResult_rxNeed (s : State) (r : Word) : (s.setResult r).rxNeed = s.rxNeed := rfl
@[simp] theorem setResult_rxPduLen (s : State) (r : Word) : (s.setResult r).rxPduLen = s.rxPduLen := rfl
@[simp] theorem setResult_flushCount (s : State) (r : Word) : (s.setResult r).flushCount = s.flushCount := rfl
@[simp] theorem setResult_flushPollMs (s : State) (r : Word) : (s.setResult r).flushPollMs = s.flushPollMs := rfl
@[simp] theorem setResult_phase (s : State) (r : Word) : (s.setResult r).phase = s.phase := rfl
@[simp] theorem setResult_sub (s : State) (r : Word) : (s.setResult r).sub = s.sub := rfl
@[simp] theorem setResult_mem (s : State) (r : Word) : (s.setResult r).mem = s.mem := rfl
@[simp] theorem setResult_linkOpen (s : State) (r : Word) : (s.setResult r).linkOpen = s.linkOpen := rfl
@[simp] theorem setResult_now (s : State) (r : Word) : (s.setResult r).now = s.now := rfl
@[simp] theorem setResult_resetAsserted (s : State) (r : Word) : (s.setResult r).resetAsserted = s.resetAsserted := rfl
@[simp] theorem setResult_inputs (s : State) (r : Word) : (s.setResult r).inputs = s.inputs := rfl
@[simp] theorem setResult_hostData (s : State) (r : Word) : (s.setResult r).hostData = s.hostData := rfl
@[simp] theorem setResult_calls (s : State) (r : Word) : (s.setResult r).calls = s.calls := rfl
@[simp] theorem setResult_txStream (s : State) (r : Word) : (s.setResult r).txStream = s.txStream := rfl
@[simp] theorem setResult_rxStream (s : State) (r : Word) : (s.setResult r).rxStream = s.rxStream := rfl
@[simp] theorem setResult_epoch (s : State) (r : Word) : (s.setResult r).epoch = s.epoch := rfl
@[simp] theorem setResult_draws (s : State) (r : Word) : (s.setResult r).draws = s.draws := rfl

/-! ### The load of the budget (R155) -/

@[simp] theorem loadBudget_busy (s : State) : (s.loadBudget).busy = s.busy := rfl
@[simp] theorem loadBudget_done (s : State) : (s.loadBudget).done = s.done := rfl
@[simp] theorem loadBudget_coll (s : State) : (s.loadBudget).coll = s.coll := rfl
@[simp] theorem loadBudget_rxValid (s : State) : (s.loadBudget).rxValid = s.rxValid := rfl
@[simp] theorem loadBudget_err (s : State) : (s.loadBudget).err = s.err := rfl
@[simp] theorem loadBudget_endPhase (s : State) : (s.loadBudget).endPhase = s.endPhase := rfl
@[simp] theorem loadBudget_detail (s : State) : (s.loadBudget).detail = s.detail := rfl
@[simp] theorem loadBudget_lastOp (s : State) : (s.loadBudget).lastOp = s.lastOp := rfl
@[simp] theorem loadBudget_arg (s : State) : (s.loadBudget).arg = s.arg := rfl
@[simp] theorem loadBudget_slave (s : State) : (s.loadBudget).slave = s.slave := rfl
@[simp] theorem loadBudget_budget (s : State) : (s.loadBudget).budget = s.arg := rfl
@[simp] theorem loadBudget_mark (s : State) : (s.loadBudget).mark = s.now := rfl
@[simp] theorem loadBudget_crc (s : State) : (s.loadBudget).crc = s.crc := rfl
@[simp] theorem loadBudget_result (s : State) : (s.loadBudget).result = s.result := rfl
@[simp] theorem loadBudget_txLen (s : State) : (s.loadBudget).txLen = s.txLen := rfl
@[simp] theorem loadBudget_txWritten (s : State) : (s.loadBudget).txWritten = s.txWritten := rfl
@[simp] theorem loadBudget_rxCount (s : State) : (s.loadBudget).rxCount = s.rxCount := rfl
@[simp] theorem loadBudget_rxNeed (s : State) : (s.loadBudget).rxNeed = s.rxNeed := rfl
@[simp] theorem loadBudget_rxPduLen (s : State) : (s.loadBudget).rxPduLen = s.rxPduLen := rfl
@[simp] theorem loadBudget_flushCount (s : State) : (s.loadBudget).flushCount = s.flushCount := rfl
@[simp] theorem loadBudget_flushPollMs (s : State) : (s.loadBudget).flushPollMs = s.flushPollMs := rfl
@[simp] theorem loadBudget_phase (s : State) : (s.loadBudget).phase = s.phase := rfl
@[simp] theorem loadBudget_sub (s : State) : (s.loadBudget).sub = s.sub := rfl
@[simp] theorem loadBudget_mem (s : State) : (s.loadBudget).mem = s.mem := rfl
@[simp] theorem loadBudget_linkOpen (s : State) : (s.loadBudget).linkOpen = s.linkOpen := rfl
@[simp] theorem loadBudget_now (s : State) : (s.loadBudget).now = s.now := rfl
@[simp] theorem loadBudget_resetAsserted (s : State) : (s.loadBudget).resetAsserted = s.resetAsserted := rfl
@[simp] theorem loadBudget_inputs (s : State) : (s.loadBudget).inputs = s.inputs := rfl
@[simp] theorem loadBudget_hostData (s : State) : (s.loadBudget).hostData = s.hostData := rfl
@[simp] theorem loadBudget_calls (s : State) : (s.loadBudget).calls = s.calls := rfl
@[simp] theorem loadBudget_txStream (s : State) : (s.loadBudget).txStream = s.txStream := rfl
@[simp] theorem loadBudget_rxStream (s : State) : (s.loadBudget).rxStream = s.rxStream := rfl
@[simp] theorem loadBudget_epoch (s : State) : (s.loadBudget).epoch = s.epoch := rfl
@[simp] theorem loadBudget_draws (s : State) : (s.loadBudget).draws = s.draws := rfl

/-! ### TX_LEN and TX_WRITTEN (R172) -/

@[simp] theorem setAdu_busy (s : State) (n : Nat) : (s.setAdu n).busy = s.busy := rfl
@[simp] theorem setAdu_done (s : State) (n : Nat) : (s.setAdu n).done = s.done := rfl
@[simp] theorem setAdu_coll (s : State) (n : Nat) : (s.setAdu n).coll = s.coll := rfl
@[simp] theorem setAdu_rxValid (s : State) (n : Nat) : (s.setAdu n).rxValid = s.rxValid := rfl
@[simp] theorem setAdu_err (s : State) (n : Nat) : (s.setAdu n).err = s.err := rfl
@[simp] theorem setAdu_endPhase (s : State) (n : Nat) : (s.setAdu n).endPhase = s.endPhase := rfl
@[simp] theorem setAdu_detail (s : State) (n : Nat) : (s.setAdu n).detail = s.detail := rfl
@[simp] theorem setAdu_lastOp (s : State) (n : Nat) : (s.setAdu n).lastOp = s.lastOp := rfl
@[simp] theorem setAdu_arg (s : State) (n : Nat) : (s.setAdu n).arg = s.arg := rfl
@[simp] theorem setAdu_slave (s : State) (n : Nat) : (s.setAdu n).slave = s.slave := rfl
@[simp] theorem setAdu_budget (s : State) (n : Nat) : (s.setAdu n).budget = s.budget := rfl
@[simp] theorem setAdu_mark (s : State) (n : Nat) : (s.setAdu n).mark = s.mark := rfl
@[simp] theorem setAdu_crc (s : State) (n : Nat) : (s.setAdu n).crc = s.crc := rfl
@[simp] theorem setAdu_result (s : State) (n : Nat) : (s.setAdu n).result = s.result := rfl
@[simp] theorem setAdu_txLen (s : State) (n : Nat) : (s.setAdu n).txLen = BitVec.ofNat 16 n := rfl
@[simp] theorem setAdu_txWritten (s : State) (n : Nat) : (s.setAdu n).txWritten = 0 := rfl
@[simp] theorem setAdu_rxCount (s : State) (n : Nat) : (s.setAdu n).rxCount = s.rxCount := rfl
@[simp] theorem setAdu_rxNeed (s : State) (n : Nat) : (s.setAdu n).rxNeed = s.rxNeed := rfl
@[simp] theorem setAdu_rxPduLen (s : State) (n : Nat) : (s.setAdu n).rxPduLen = s.rxPduLen := rfl
@[simp] theorem setAdu_flushCount (s : State) (n : Nat) : (s.setAdu n).flushCount = s.flushCount := rfl
@[simp] theorem setAdu_flushPollMs (s : State) (n : Nat) : (s.setAdu n).flushPollMs = s.flushPollMs := rfl
@[simp] theorem setAdu_phase (s : State) (n : Nat) : (s.setAdu n).phase = s.phase := rfl
@[simp] theorem setAdu_sub (s : State) (n : Nat) : (s.setAdu n).sub = s.sub := rfl
@[simp] theorem setAdu_mem (s : State) (n : Nat) : (s.setAdu n).mem = s.mem := rfl
@[simp] theorem setAdu_linkOpen (s : State) (n : Nat) : (s.setAdu n).linkOpen = s.linkOpen := rfl
@[simp] theorem setAdu_now (s : State) (n : Nat) : (s.setAdu n).now = s.now := rfl
@[simp] theorem setAdu_resetAsserted (s : State) (n : Nat) : (s.setAdu n).resetAsserted = s.resetAsserted := rfl
@[simp] theorem setAdu_inputs (s : State) (n : Nat) : (s.setAdu n).inputs = s.inputs := rfl
@[simp] theorem setAdu_hostData (s : State) (n : Nat) : (s.setAdu n).hostData = s.hostData := rfl
@[simp] theorem setAdu_calls (s : State) (n : Nat) : (s.setAdu n).calls = s.calls := rfl
@[simp] theorem setAdu_txStream (s : State) (n : Nat) : (s.setAdu n).txStream = s.txStream := rfl
@[simp] theorem setAdu_rxStream (s : State) (n : Nat) : (s.setAdu n).rxStream = s.rxStream := rfl
@[simp] theorem setAdu_epoch (s : State) (n : Nat) : (s.setAdu n).epoch = s.epoch := rfl
@[simp] theorem setAdu_draws (s : State) (n : Nat) : (s.setAdu n).draws = s.draws := rfl

/-! ### RX_NEED (R45) -/

@[simp] theorem setRxNeed_busy (s : State) (n : Nat) : (s.setRxNeed n).busy = s.busy := rfl
@[simp] theorem setRxNeed_done (s : State) (n : Nat) : (s.setRxNeed n).done = s.done := rfl
@[simp] theorem setRxNeed_coll (s : State) (n : Nat) : (s.setRxNeed n).coll = s.coll := rfl
@[simp] theorem setRxNeed_rxValid (s : State) (n : Nat) : (s.setRxNeed n).rxValid = s.rxValid := rfl
@[simp] theorem setRxNeed_err (s : State) (n : Nat) : (s.setRxNeed n).err = s.err := rfl
@[simp] theorem setRxNeed_endPhase (s : State) (n : Nat) : (s.setRxNeed n).endPhase = s.endPhase := rfl
@[simp] theorem setRxNeed_detail (s : State) (n : Nat) : (s.setRxNeed n).detail = s.detail := rfl
@[simp] theorem setRxNeed_lastOp (s : State) (n : Nat) : (s.setRxNeed n).lastOp = s.lastOp := rfl
@[simp] theorem setRxNeed_arg (s : State) (n : Nat) : (s.setRxNeed n).arg = s.arg := rfl
@[simp] theorem setRxNeed_slave (s : State) (n : Nat) : (s.setRxNeed n).slave = s.slave := rfl
@[simp] theorem setRxNeed_budget (s : State) (n : Nat) : (s.setRxNeed n).budget = s.budget := rfl
@[simp] theorem setRxNeed_mark (s : State) (n : Nat) : (s.setRxNeed n).mark = s.mark := rfl
@[simp] theorem setRxNeed_crc (s : State) (n : Nat) : (s.setRxNeed n).crc = s.crc := rfl
@[simp] theorem setRxNeed_result (s : State) (n : Nat) : (s.setRxNeed n).result = s.result := rfl
@[simp] theorem setRxNeed_txLen (s : State) (n : Nat) : (s.setRxNeed n).txLen = s.txLen := rfl
@[simp] theorem setRxNeed_txWritten (s : State) (n : Nat) : (s.setRxNeed n).txWritten = s.txWritten := rfl
@[simp] theorem setRxNeed_rxCount (s : State) (n : Nat) : (s.setRxNeed n).rxCount = s.rxCount := rfl
@[simp] theorem setRxNeed_rxNeed (s : State) (n : Nat) : (s.setRxNeed n).rxNeed = BitVec.ofNat 16 n := rfl
@[simp] theorem setRxNeed_rxPduLen (s : State) (n : Nat) : (s.setRxNeed n).rxPduLen = s.rxPduLen := rfl
@[simp] theorem setRxNeed_flushCount (s : State) (n : Nat) : (s.setRxNeed n).flushCount = s.flushCount := rfl
@[simp] theorem setRxNeed_flushPollMs (s : State) (n : Nat) : (s.setRxNeed n).flushPollMs = s.flushPollMs := rfl
@[simp] theorem setRxNeed_phase (s : State) (n : Nat) : (s.setRxNeed n).phase = s.phase := rfl
@[simp] theorem setRxNeed_sub (s : State) (n : Nat) : (s.setRxNeed n).sub = s.sub := rfl
@[simp] theorem setRxNeed_mem (s : State) (n : Nat) : (s.setRxNeed n).mem = s.mem := rfl
@[simp] theorem setRxNeed_linkOpen (s : State) (n : Nat) : (s.setRxNeed n).linkOpen = s.linkOpen := rfl
@[simp] theorem setRxNeed_now (s : State) (n : Nat) : (s.setRxNeed n).now = s.now := rfl
@[simp] theorem setRxNeed_resetAsserted (s : State) (n : Nat) : (s.setRxNeed n).resetAsserted = s.resetAsserted := rfl
@[simp] theorem setRxNeed_inputs (s : State) (n : Nat) : (s.setRxNeed n).inputs = s.inputs := rfl
@[simp] theorem setRxNeed_hostData (s : State) (n : Nat) : (s.setRxNeed n).hostData = s.hostData := rfl
@[simp] theorem setRxNeed_calls (s : State) (n : Nat) : (s.setRxNeed n).calls = s.calls := rfl
@[simp] theorem setRxNeed_txStream (s : State) (n : Nat) : (s.setRxNeed n).txStream = s.txStream := rfl
@[simp] theorem setRxNeed_rxStream (s : State) (n : Nat) : (s.setRxNeed n).rxStream = s.rxStream := rfl
@[simp] theorem setRxNeed_epoch (s : State) (n : Nat) : (s.setRxNeed n).epoch = s.epoch := rfl
@[simp] theorem setRxNeed_draws (s : State) (n : Nat) : (s.setRxNeed n).draws = s.draws := rfl

/-! ### No verified frame (R27) -/

@[simp] theorem dropFrame_busy (s : State) : (s.dropFrame).busy = s.busy := rfl
@[simp] theorem dropFrame_done (s : State) : (s.dropFrame).done = s.done := rfl
@[simp] theorem dropFrame_coll (s : State) : (s.dropFrame).coll = s.coll := rfl
@[simp] theorem dropFrame_rxValid (s : State) : (s.dropFrame).rxValid = false := rfl
@[simp] theorem dropFrame_err (s : State) : (s.dropFrame).err = s.err := rfl
@[simp] theorem dropFrame_endPhase (s : State) : (s.dropFrame).endPhase = s.endPhase := rfl
@[simp] theorem dropFrame_detail (s : State) : (s.dropFrame).detail = s.detail := rfl
@[simp] theorem dropFrame_lastOp (s : State) : (s.dropFrame).lastOp = s.lastOp := rfl
@[simp] theorem dropFrame_arg (s : State) : (s.dropFrame).arg = s.arg := rfl
@[simp] theorem dropFrame_slave (s : State) : (s.dropFrame).slave = s.slave := rfl
@[simp] theorem dropFrame_budget (s : State) : (s.dropFrame).budget = s.budget := rfl
@[simp] theorem dropFrame_mark (s : State) : (s.dropFrame).mark = s.mark := rfl
@[simp] theorem dropFrame_crc (s : State) : (s.dropFrame).crc = s.crc := rfl
@[simp] theorem dropFrame_result (s : State) : (s.dropFrame).result = s.result := rfl
@[simp] theorem dropFrame_txLen (s : State) : (s.dropFrame).txLen = s.txLen := rfl
@[simp] theorem dropFrame_txWritten (s : State) : (s.dropFrame).txWritten = s.txWritten := rfl
@[simp] theorem dropFrame_rxCount (s : State) : (s.dropFrame).rxCount = s.rxCount := rfl
@[simp] theorem dropFrame_rxNeed (s : State) : (s.dropFrame).rxNeed = s.rxNeed := rfl
@[simp] theorem dropFrame_rxPduLen (s : State) : (s.dropFrame).rxPduLen = 0 := rfl
@[simp] theorem dropFrame_flushCount (s : State) : (s.dropFrame).flushCount = s.flushCount := rfl
@[simp] theorem dropFrame_flushPollMs (s : State) : (s.dropFrame).flushPollMs = s.flushPollMs := rfl
@[simp] theorem dropFrame_phase (s : State) : (s.dropFrame).phase = s.phase := rfl
@[simp] theorem dropFrame_sub (s : State) : (s.dropFrame).sub = s.sub := rfl
@[simp] theorem dropFrame_mem (s : State) : (s.dropFrame).mem = s.mem := rfl
@[simp] theorem dropFrame_linkOpen (s : State) : (s.dropFrame).linkOpen = s.linkOpen := rfl
@[simp] theorem dropFrame_now (s : State) : (s.dropFrame).now = s.now := rfl
@[simp] theorem dropFrame_resetAsserted (s : State) : (s.dropFrame).resetAsserted = s.resetAsserted := rfl
@[simp] theorem dropFrame_inputs (s : State) : (s.dropFrame).inputs = s.inputs := rfl
@[simp] theorem dropFrame_hostData (s : State) : (s.dropFrame).hostData = s.hostData := rfl
@[simp] theorem dropFrame_calls (s : State) : (s.dropFrame).calls = s.calls := rfl
@[simp] theorem dropFrame_txStream (s : State) : (s.dropFrame).txStream = s.txStream := rfl
@[simp] theorem dropFrame_rxStream (s : State) : (s.dropFrame).rxStream = s.rxStream := rfl
@[simp] theorem dropFrame_epoch (s : State) : (s.dropFrame).epoch = s.epoch := rfl
@[simp] theorem dropFrame_draws (s : State) : (s.dropFrame).draws = s.draws := rfl

/-! ### A verified frame (R27) -/

@[simp] theorem validFrame_busy (s : State) (n : Nat) : (s.validFrame n).busy = s.busy := rfl
@[simp] theorem validFrame_done (s : State) (n : Nat) : (s.validFrame n).done = s.done := rfl
@[simp] theorem validFrame_coll (s : State) (n : Nat) : (s.validFrame n).coll = s.coll := rfl
@[simp] theorem validFrame_rxValid (s : State) (n : Nat) : (s.validFrame n).rxValid = true := rfl
@[simp] theorem validFrame_err (s : State) (n : Nat) : (s.validFrame n).err = s.err := rfl
@[simp] theorem validFrame_endPhase (s : State) (n : Nat) : (s.validFrame n).endPhase = s.endPhase := rfl
@[simp] theorem validFrame_detail (s : State) (n : Nat) : (s.validFrame n).detail = s.detail := rfl
@[simp] theorem validFrame_lastOp (s : State) (n : Nat) : (s.validFrame n).lastOp = s.lastOp := rfl
@[simp] theorem validFrame_arg (s : State) (n : Nat) : (s.validFrame n).arg = s.arg := rfl
@[simp] theorem validFrame_slave (s : State) (n : Nat) : (s.validFrame n).slave = s.slave := rfl
@[simp] theorem validFrame_budget (s : State) (n : Nat) : (s.validFrame n).budget = s.budget := rfl
@[simp] theorem validFrame_mark (s : State) (n : Nat) : (s.validFrame n).mark = s.mark := rfl
@[simp] theorem validFrame_crc (s : State) (n : Nat) : (s.validFrame n).crc = s.crc := rfl
@[simp] theorem validFrame_result (s : State) (n : Nat) : (s.validFrame n).result = s.result := rfl
@[simp] theorem validFrame_txLen (s : State) (n : Nat) : (s.validFrame n).txLen = s.txLen := rfl
@[simp] theorem validFrame_txWritten (s : State) (n : Nat) : (s.validFrame n).txWritten = s.txWritten := rfl
@[simp] theorem validFrame_rxCount (s : State) (n : Nat) : (s.validFrame n).rxCount = s.rxCount := rfl
@[simp] theorem validFrame_rxNeed (s : State) (n : Nat) : (s.validFrame n).rxNeed = s.rxNeed := rfl
@[simp] theorem validFrame_rxPduLen (s : State) (n : Nat) : (s.validFrame n).rxPduLen = BitVec.ofNat 16 n := rfl
@[simp] theorem validFrame_flushCount (s : State) (n : Nat) : (s.validFrame n).flushCount = s.flushCount := rfl
@[simp] theorem validFrame_flushPollMs (s : State) (n : Nat) : (s.validFrame n).flushPollMs = s.flushPollMs := rfl
@[simp] theorem validFrame_phase (s : State) (n : Nat) : (s.validFrame n).phase = s.phase := rfl
@[simp] theorem validFrame_sub (s : State) (n : Nat) : (s.validFrame n).sub = s.sub := rfl
@[simp] theorem validFrame_mem (s : State) (n : Nat) : (s.validFrame n).mem = s.mem := rfl
@[simp] theorem validFrame_linkOpen (s : State) (n : Nat) : (s.validFrame n).linkOpen = s.linkOpen := rfl
@[simp] theorem validFrame_now (s : State) (n : Nat) : (s.validFrame n).now = s.now := rfl
@[simp] theorem validFrame_resetAsserted (s : State) (n : Nat) : (s.validFrame n).resetAsserted = s.resetAsserted := rfl
@[simp] theorem validFrame_inputs (s : State) (n : Nat) : (s.validFrame n).inputs = s.inputs := rfl
@[simp] theorem validFrame_hostData (s : State) (n : Nat) : (s.validFrame n).hostData = s.hostData := rfl
@[simp] theorem validFrame_calls (s : State) (n : Nat) : (s.validFrame n).calls = s.calls := rfl
@[simp] theorem validFrame_txStream (s : State) (n : Nat) : (s.validFrame n).txStream = s.txStream := rfl
@[simp] theorem validFrame_rxStream (s : State) (n : Nat) : (s.validFrame n).rxStream = s.rxStream := rfl
@[simp] theorem validFrame_epoch (s : State) (n : Nat) : (s.validFrame n).epoch = s.epoch := rfl
@[simp] theorem validFrame_draws (s : State) (n : Nat) : (s.validFrame n).draws = s.draws := rfl

/-! ### BUSY (R24) -/

@[simp] theorem setBusy_busy (s : State) : (s.setBusy).busy = true := rfl
@[simp] theorem setBusy_done (s : State) : (s.setBusy).done = s.done := rfl
@[simp] theorem setBusy_coll (s : State) : (s.setBusy).coll = s.coll := rfl
@[simp] theorem setBusy_rxValid (s : State) : (s.setBusy).rxValid = s.rxValid := rfl
@[simp] theorem setBusy_err (s : State) : (s.setBusy).err = s.err := rfl
@[simp] theorem setBusy_endPhase (s : State) : (s.setBusy).endPhase = s.endPhase := rfl
@[simp] theorem setBusy_detail (s : State) : (s.setBusy).detail = s.detail := rfl
@[simp] theorem setBusy_lastOp (s : State) : (s.setBusy).lastOp = s.lastOp := rfl
@[simp] theorem setBusy_arg (s : State) : (s.setBusy).arg = s.arg := rfl
@[simp] theorem setBusy_slave (s : State) : (s.setBusy).slave = s.slave := rfl
@[simp] theorem setBusy_budget (s : State) : (s.setBusy).budget = s.budget := rfl
@[simp] theorem setBusy_mark (s : State) : (s.setBusy).mark = s.mark := rfl
@[simp] theorem setBusy_crc (s : State) : (s.setBusy).crc = s.crc := rfl
@[simp] theorem setBusy_result (s : State) : (s.setBusy).result = s.result := rfl
@[simp] theorem setBusy_txLen (s : State) : (s.setBusy).txLen = s.txLen := rfl
@[simp] theorem setBusy_txWritten (s : State) : (s.setBusy).txWritten = s.txWritten := rfl
@[simp] theorem setBusy_rxCount (s : State) : (s.setBusy).rxCount = s.rxCount := rfl
@[simp] theorem setBusy_rxNeed (s : State) : (s.setBusy).rxNeed = s.rxNeed := rfl
@[simp] theorem setBusy_rxPduLen (s : State) : (s.setBusy).rxPduLen = s.rxPduLen := rfl
@[simp] theorem setBusy_flushCount (s : State) : (s.setBusy).flushCount = s.flushCount := rfl
@[simp] theorem setBusy_flushPollMs (s : State) : (s.setBusy).flushPollMs = s.flushPollMs := rfl
@[simp] theorem setBusy_phase (s : State) : (s.setBusy).phase = s.phase := rfl
@[simp] theorem setBusy_sub (s : State) : (s.setBusy).sub = s.sub := rfl
@[simp] theorem setBusy_mem (s : State) : (s.setBusy).mem = s.mem := rfl
@[simp] theorem setBusy_linkOpen (s : State) : (s.setBusy).linkOpen = s.linkOpen := rfl
@[simp] theorem setBusy_now (s : State) : (s.setBusy).now = s.now := rfl
@[simp] theorem setBusy_resetAsserted (s : State) : (s.setBusy).resetAsserted = s.resetAsserted := rfl
@[simp] theorem setBusy_inputs (s : State) : (s.setBusy).inputs = s.inputs := rfl
@[simp] theorem setBusy_hostData (s : State) : (s.setBusy).hostData = s.hostData := rfl
@[simp] theorem setBusy_calls (s : State) : (s.setBusy).calls = s.calls := rfl
@[simp] theorem setBusy_txStream (s : State) : (s.setBusy).txStream = s.txStream := rfl
@[simp] theorem setBusy_rxStream (s : State) : (s.setBusy).rxStream = s.rxStream := rfl
@[simp] theorem setBusy_epoch (s : State) : (s.setBusy).epoch = s.epoch := rfl
@[simp] theorem setBusy_draws (s : State) : (s.setBusy).draws = s.draws := rfl

/-! ### PHASE and SUB (R51, R176) -/

@[simp] theorem atPhase_busy (s : State) (p : Phase) : (s.atPhase p).busy = s.busy := rfl
@[simp] theorem atPhase_done (s : State) (p : Phase) : (s.atPhase p).done = s.done := rfl
@[simp] theorem atPhase_coll (s : State) (p : Phase) : (s.atPhase p).coll = s.coll := rfl
@[simp] theorem atPhase_rxValid (s : State) (p : Phase) : (s.atPhase p).rxValid = s.rxValid := rfl
@[simp] theorem atPhase_err (s : State) (p : Phase) : (s.atPhase p).err = s.err := rfl
@[simp] theorem atPhase_endPhase (s : State) (p : Phase) : (s.atPhase p).endPhase = s.endPhase := rfl
@[simp] theorem atPhase_detail (s : State) (p : Phase) : (s.atPhase p).detail = s.detail := rfl
@[simp] theorem atPhase_lastOp (s : State) (p : Phase) : (s.atPhase p).lastOp = s.lastOp := rfl
@[simp] theorem atPhase_arg (s : State) (p : Phase) : (s.atPhase p).arg = s.arg := rfl
@[simp] theorem atPhase_slave (s : State) (p : Phase) : (s.atPhase p).slave = s.slave := rfl
@[simp] theorem atPhase_budget (s : State) (p : Phase) : (s.atPhase p).budget = s.budget := rfl
@[simp] theorem atPhase_mark (s : State) (p : Phase) : (s.atPhase p).mark = s.mark := rfl
@[simp] theorem atPhase_crc (s : State) (p : Phase) : (s.atPhase p).crc = s.crc := rfl
@[simp] theorem atPhase_result (s : State) (p : Phase) : (s.atPhase p).result = s.result := rfl
@[simp] theorem atPhase_txLen (s : State) (p : Phase) : (s.atPhase p).txLen = s.txLen := rfl
@[simp] theorem atPhase_txWritten (s : State) (p : Phase) : (s.atPhase p).txWritten = s.txWritten := rfl
@[simp] theorem atPhase_rxCount (s : State) (p : Phase) : (s.atPhase p).rxCount = s.rxCount := rfl
@[simp] theorem atPhase_rxNeed (s : State) (p : Phase) : (s.atPhase p).rxNeed = s.rxNeed := rfl
@[simp] theorem atPhase_rxPduLen (s : State) (p : Phase) : (s.atPhase p).rxPduLen = s.rxPduLen := rfl
@[simp] theorem atPhase_flushCount (s : State) (p : Phase) : (s.atPhase p).flushCount = s.flushCount := rfl
@[simp] theorem atPhase_flushPollMs (s : State) (p : Phase) : (s.atPhase p).flushPollMs = s.flushPollMs := rfl
@[simp] theorem atPhase_phase (s : State) (p : Phase) : (s.atPhase p).phase = p := rfl
@[simp] theorem atPhase_sub (s : State) (p : Phase) : (s.atPhase p).sub = .poll := rfl
@[simp] theorem atPhase_mem (s : State) (p : Phase) : (s.atPhase p).mem = s.mem := rfl
@[simp] theorem atPhase_linkOpen (s : State) (p : Phase) : (s.atPhase p).linkOpen = s.linkOpen := rfl
@[simp] theorem atPhase_now (s : State) (p : Phase) : (s.atPhase p).now = s.now := rfl
@[simp] theorem atPhase_resetAsserted (s : State) (p : Phase) : (s.atPhase p).resetAsserted = s.resetAsserted := rfl
@[simp] theorem atPhase_inputs (s : State) (p : Phase) : (s.atPhase p).inputs = s.inputs := rfl
@[simp] theorem atPhase_hostData (s : State) (p : Phase) : (s.atPhase p).hostData = s.hostData := rfl
@[simp] theorem atPhase_calls (s : State) (p : Phase) : (s.atPhase p).calls = s.calls := rfl
@[simp] theorem atPhase_txStream (s : State) (p : Phase) : (s.atPhase p).txStream = s.txStream := rfl
@[simp] theorem atPhase_rxStream (s : State) (p : Phase) : (s.atPhase p).rxStream = s.rxStream := rfl
@[simp] theorem atPhase_epoch (s : State) (p : Phase) : (s.atPhase p).epoch = s.epoch := rfl
@[simp] theorem atPhase_draws (s : State) (p : Phase) : (s.atPhase p).draws = s.draws := rfl

/-! ### SUB (R51) -/

@[simp] theorem setSub_busy (s : State) (x : Sub) : (s.setSub x).busy = s.busy := rfl
@[simp] theorem setSub_done (s : State) (x : Sub) : (s.setSub x).done = s.done := rfl
@[simp] theorem setSub_coll (s : State) (x : Sub) : (s.setSub x).coll = s.coll := rfl
@[simp] theorem setSub_rxValid (s : State) (x : Sub) : (s.setSub x).rxValid = s.rxValid := rfl
@[simp] theorem setSub_err (s : State) (x : Sub) : (s.setSub x).err = s.err := rfl
@[simp] theorem setSub_endPhase (s : State) (x : Sub) : (s.setSub x).endPhase = s.endPhase := rfl
@[simp] theorem setSub_detail (s : State) (x : Sub) : (s.setSub x).detail = s.detail := rfl
@[simp] theorem setSub_lastOp (s : State) (x : Sub) : (s.setSub x).lastOp = s.lastOp := rfl
@[simp] theorem setSub_arg (s : State) (x : Sub) : (s.setSub x).arg = s.arg := rfl
@[simp] theorem setSub_slave (s : State) (x : Sub) : (s.setSub x).slave = s.slave := rfl
@[simp] theorem setSub_budget (s : State) (x : Sub) : (s.setSub x).budget = s.budget := rfl
@[simp] theorem setSub_mark (s : State) (x : Sub) : (s.setSub x).mark = s.mark := rfl
@[simp] theorem setSub_crc (s : State) (x : Sub) : (s.setSub x).crc = s.crc := rfl
@[simp] theorem setSub_result (s : State) (x : Sub) : (s.setSub x).result = s.result := rfl
@[simp] theorem setSub_txLen (s : State) (x : Sub) : (s.setSub x).txLen = s.txLen := rfl
@[simp] theorem setSub_txWritten (s : State) (x : Sub) : (s.setSub x).txWritten = s.txWritten := rfl
@[simp] theorem setSub_rxCount (s : State) (x : Sub) : (s.setSub x).rxCount = s.rxCount := rfl
@[simp] theorem setSub_rxNeed (s : State) (x : Sub) : (s.setSub x).rxNeed = s.rxNeed := rfl
@[simp] theorem setSub_rxPduLen (s : State) (x : Sub) : (s.setSub x).rxPduLen = s.rxPduLen := rfl
@[simp] theorem setSub_flushCount (s : State) (x : Sub) : (s.setSub x).flushCount = s.flushCount := rfl
@[simp] theorem setSub_flushPollMs (s : State) (x : Sub) : (s.setSub x).flushPollMs = s.flushPollMs := rfl
@[simp] theorem setSub_phase (s : State) (x : Sub) : (s.setSub x).phase = s.phase := rfl
@[simp] theorem setSub_sub (s : State) (x : Sub) : (s.setSub x).sub = x := rfl
@[simp] theorem setSub_mem (s : State) (x : Sub) : (s.setSub x).mem = s.mem := rfl
@[simp] theorem setSub_linkOpen (s : State) (x : Sub) : (s.setSub x).linkOpen = s.linkOpen := rfl
@[simp] theorem setSub_now (s : State) (x : Sub) : (s.setSub x).now = s.now := rfl
@[simp] theorem setSub_resetAsserted (s : State) (x : Sub) : (s.setSub x).resetAsserted = s.resetAsserted := rfl
@[simp] theorem setSub_inputs (s : State) (x : Sub) : (s.setSub x).inputs = s.inputs := rfl
@[simp] theorem setSub_hostData (s : State) (x : Sub) : (s.setSub x).hostData = s.hostData := rfl
@[simp] theorem setSub_calls (s : State) (x : Sub) : (s.setSub x).calls = s.calls := rfl
@[simp] theorem setSub_txStream (s : State) (x : Sub) : (s.setSub x).txStream = s.txStream := rfl
@[simp] theorem setSub_rxStream (s : State) (x : Sub) : (s.setSub x).rxStream = s.rxStream := rfl
@[simp] theorem setSub_epoch (s : State) (x : Sub) : (s.setSub x).epoch = s.epoch := rfl
@[simp] theorem setSub_draws (s : State) (x : Sub) : (s.setSub x).draws = s.draws := rfl

/-! ### The time input (R75) -/

@[simp] theorem setNow_busy (s : State) (t : Word) : (s.setNow t).busy = s.busy := rfl
@[simp] theorem setNow_done (s : State) (t : Word) : (s.setNow t).done = s.done := rfl
@[simp] theorem setNow_coll (s : State) (t : Word) : (s.setNow t).coll = s.coll := rfl
@[simp] theorem setNow_rxValid (s : State) (t : Word) : (s.setNow t).rxValid = s.rxValid := rfl
@[simp] theorem setNow_err (s : State) (t : Word) : (s.setNow t).err = s.err := rfl
@[simp] theorem setNow_endPhase (s : State) (t : Word) : (s.setNow t).endPhase = s.endPhase := rfl
@[simp] theorem setNow_detail (s : State) (t : Word) : (s.setNow t).detail = s.detail := rfl
@[simp] theorem setNow_lastOp (s : State) (t : Word) : (s.setNow t).lastOp = s.lastOp := rfl
@[simp] theorem setNow_arg (s : State) (t : Word) : (s.setNow t).arg = s.arg := rfl
@[simp] theorem setNow_slave (s : State) (t : Word) : (s.setNow t).slave = s.slave := rfl
@[simp] theorem setNow_budget (s : State) (t : Word) : (s.setNow t).budget = s.budget := rfl
@[simp] theorem setNow_mark (s : State) (t : Word) : (s.setNow t).mark = s.mark := rfl
@[simp] theorem setNow_crc (s : State) (t : Word) : (s.setNow t).crc = s.crc := rfl
@[simp] theorem setNow_result (s : State) (t : Word) : (s.setNow t).result = s.result := rfl
@[simp] theorem setNow_txLen (s : State) (t : Word) : (s.setNow t).txLen = s.txLen := rfl
@[simp] theorem setNow_txWritten (s : State) (t : Word) : (s.setNow t).txWritten = s.txWritten := rfl
@[simp] theorem setNow_rxCount (s : State) (t : Word) : (s.setNow t).rxCount = s.rxCount := rfl
@[simp] theorem setNow_rxNeed (s : State) (t : Word) : (s.setNow t).rxNeed = s.rxNeed := rfl
@[simp] theorem setNow_rxPduLen (s : State) (t : Word) : (s.setNow t).rxPduLen = s.rxPduLen := rfl
@[simp] theorem setNow_flushCount (s : State) (t : Word) : (s.setNow t).flushCount = s.flushCount := rfl
@[simp] theorem setNow_flushPollMs (s : State) (t : Word) : (s.setNow t).flushPollMs = s.flushPollMs := rfl
@[simp] theorem setNow_phase (s : State) (t : Word) : (s.setNow t).phase = s.phase := rfl
@[simp] theorem setNow_sub (s : State) (t : Word) : (s.setNow t).sub = s.sub := rfl
@[simp] theorem setNow_mem (s : State) (t : Word) : (s.setNow t).mem = s.mem := rfl
@[simp] theorem setNow_linkOpen (s : State) (t : Word) : (s.setNow t).linkOpen = s.linkOpen := rfl
@[simp] theorem setNow_now (s : State) (t : Word) : (s.setNow t).now = t := rfl
@[simp] theorem setNow_resetAsserted (s : State) (t : Word) : (s.setNow t).resetAsserted = s.resetAsserted := rfl
@[simp] theorem setNow_inputs (s : State) (t : Word) : (s.setNow t).inputs = s.inputs := rfl
@[simp] theorem setNow_hostData (s : State) (t : Word) : (s.setNow t).hostData = s.hostData := rfl
@[simp] theorem setNow_calls (s : State) (t : Word) : (s.setNow t).calls = s.calls := rfl
@[simp] theorem setNow_txStream (s : State) (t : Word) : (s.setNow t).txStream = s.txStream := rfl
@[simp] theorem setNow_rxStream (s : State) (t : Word) : (s.setNow t).rxStream = s.rxStream := rfl
@[simp] theorem setNow_epoch (s : State) (t : Word) : (s.setNow t).epoch = s.epoch := rfl
@[simp] theorem setNow_draws (s : State) (t : Word) : (s.setNow t).draws = s.draws := rfl

/-! ### The inputs to come -/

@[simp] theorem setInputs_busy (s : State) (l : List Input) : (s.setInputs l).busy = s.busy := rfl
@[simp] theorem setInputs_done (s : State) (l : List Input) : (s.setInputs l).done = s.done := rfl
@[simp] theorem setInputs_coll (s : State) (l : List Input) : (s.setInputs l).coll = s.coll := rfl
@[simp] theorem setInputs_rxValid (s : State) (l : List Input) : (s.setInputs l).rxValid = s.rxValid := rfl
@[simp] theorem setInputs_err (s : State) (l : List Input) : (s.setInputs l).err = s.err := rfl
@[simp] theorem setInputs_endPhase (s : State) (l : List Input) : (s.setInputs l).endPhase = s.endPhase := rfl
@[simp] theorem setInputs_detail (s : State) (l : List Input) : (s.setInputs l).detail = s.detail := rfl
@[simp] theorem setInputs_lastOp (s : State) (l : List Input) : (s.setInputs l).lastOp = s.lastOp := rfl
@[simp] theorem setInputs_arg (s : State) (l : List Input) : (s.setInputs l).arg = s.arg := rfl
@[simp] theorem setInputs_slave (s : State) (l : List Input) : (s.setInputs l).slave = s.slave := rfl
@[simp] theorem setInputs_budget (s : State) (l : List Input) : (s.setInputs l).budget = s.budget := rfl
@[simp] theorem setInputs_mark (s : State) (l : List Input) : (s.setInputs l).mark = s.mark := rfl
@[simp] theorem setInputs_crc (s : State) (l : List Input) : (s.setInputs l).crc = s.crc := rfl
@[simp] theorem setInputs_result (s : State) (l : List Input) : (s.setInputs l).result = s.result := rfl
@[simp] theorem setInputs_txLen (s : State) (l : List Input) : (s.setInputs l).txLen = s.txLen := rfl
@[simp] theorem setInputs_txWritten (s : State) (l : List Input) : (s.setInputs l).txWritten = s.txWritten := rfl
@[simp] theorem setInputs_rxCount (s : State) (l : List Input) : (s.setInputs l).rxCount = s.rxCount := rfl
@[simp] theorem setInputs_rxNeed (s : State) (l : List Input) : (s.setInputs l).rxNeed = s.rxNeed := rfl
@[simp] theorem setInputs_rxPduLen (s : State) (l : List Input) : (s.setInputs l).rxPduLen = s.rxPduLen := rfl
@[simp] theorem setInputs_flushCount (s : State) (l : List Input) : (s.setInputs l).flushCount = s.flushCount := rfl
@[simp] theorem setInputs_flushPollMs (s : State) (l : List Input) : (s.setInputs l).flushPollMs = s.flushPollMs := rfl
@[simp] theorem setInputs_phase (s : State) (l : List Input) : (s.setInputs l).phase = s.phase := rfl
@[simp] theorem setInputs_sub (s : State) (l : List Input) : (s.setInputs l).sub = s.sub := rfl
@[simp] theorem setInputs_mem (s : State) (l : List Input) : (s.setInputs l).mem = s.mem := rfl
@[simp] theorem setInputs_linkOpen (s : State) (l : List Input) : (s.setInputs l).linkOpen = s.linkOpen := rfl
@[simp] theorem setInputs_now (s : State) (l : List Input) : (s.setInputs l).now = s.now := rfl
@[simp] theorem setInputs_resetAsserted (s : State) (l : List Input) : (s.setInputs l).resetAsserted = s.resetAsserted := rfl
@[simp] theorem setInputs_inputs (s : State) (l : List Input) : (s.setInputs l).inputs = l := rfl
@[simp] theorem setInputs_hostData (s : State) (l : List Input) : (s.setInputs l).hostData = s.hostData := rfl
@[simp] theorem setInputs_calls (s : State) (l : List Input) : (s.setInputs l).calls = s.calls := rfl
@[simp] theorem setInputs_txStream (s : State) (l : List Input) : (s.setInputs l).txStream = s.txStream := rfl
@[simp] theorem setInputs_rxStream (s : State) (l : List Input) : (s.setInputs l).rxStream = s.rxStream := rfl
@[simp] theorem setInputs_epoch (s : State) (l : List Input) : (s.setInputs l).epoch = s.epoch := rfl
@[simp] theorem setInputs_draws (s : State) (l : List Input) : (s.setInputs l).draws = s.draws := rfl

/-! ### The value given back to the host (R65) -/

@[simp] theorem giveBack_busy (s : State) (v : Word) : (s.giveBack v).busy = s.busy := rfl
@[simp] theorem giveBack_done (s : State) (v : Word) : (s.giveBack v).done = s.done := rfl
@[simp] theorem giveBack_coll (s : State) (v : Word) : (s.giveBack v).coll = s.coll := rfl
@[simp] theorem giveBack_rxValid (s : State) (v : Word) : (s.giveBack v).rxValid = s.rxValid := rfl
@[simp] theorem giveBack_err (s : State) (v : Word) : (s.giveBack v).err = s.err := rfl
@[simp] theorem giveBack_endPhase (s : State) (v : Word) : (s.giveBack v).endPhase = s.endPhase := rfl
@[simp] theorem giveBack_detail (s : State) (v : Word) : (s.giveBack v).detail = s.detail := rfl
@[simp] theorem giveBack_lastOp (s : State) (v : Word) : (s.giveBack v).lastOp = s.lastOp := rfl
@[simp] theorem giveBack_arg (s : State) (v : Word) : (s.giveBack v).arg = s.arg := rfl
@[simp] theorem giveBack_slave (s : State) (v : Word) : (s.giveBack v).slave = s.slave := rfl
@[simp] theorem giveBack_budget (s : State) (v : Word) : (s.giveBack v).budget = s.budget := rfl
@[simp] theorem giveBack_mark (s : State) (v : Word) : (s.giveBack v).mark = s.mark := rfl
@[simp] theorem giveBack_crc (s : State) (v : Word) : (s.giveBack v).crc = s.crc := rfl
@[simp] theorem giveBack_result (s : State) (v : Word) : (s.giveBack v).result = s.result := rfl
@[simp] theorem giveBack_txLen (s : State) (v : Word) : (s.giveBack v).txLen = s.txLen := rfl
@[simp] theorem giveBack_txWritten (s : State) (v : Word) : (s.giveBack v).txWritten = s.txWritten := rfl
@[simp] theorem giveBack_rxCount (s : State) (v : Word) : (s.giveBack v).rxCount = s.rxCount := rfl
@[simp] theorem giveBack_rxNeed (s : State) (v : Word) : (s.giveBack v).rxNeed = s.rxNeed := rfl
@[simp] theorem giveBack_rxPduLen (s : State) (v : Word) : (s.giveBack v).rxPduLen = s.rxPduLen := rfl
@[simp] theorem giveBack_flushCount (s : State) (v : Word) : (s.giveBack v).flushCount = s.flushCount := rfl
@[simp] theorem giveBack_flushPollMs (s : State) (v : Word) : (s.giveBack v).flushPollMs = s.flushPollMs := rfl
@[simp] theorem giveBack_phase (s : State) (v : Word) : (s.giveBack v).phase = s.phase := rfl
@[simp] theorem giveBack_sub (s : State) (v : Word) : (s.giveBack v).sub = s.sub := rfl
@[simp] theorem giveBack_mem (s : State) (v : Word) : (s.giveBack v).mem = s.mem := rfl
@[simp] theorem giveBack_linkOpen (s : State) (v : Word) : (s.giveBack v).linkOpen = s.linkOpen := rfl
@[simp] theorem giveBack_now (s : State) (v : Word) : (s.giveBack v).now = s.now := rfl
@[simp] theorem giveBack_resetAsserted (s : State) (v : Word) : (s.giveBack v).resetAsserted = s.resetAsserted := rfl
@[simp] theorem giveBack_inputs (s : State) (v : Word) : (s.giveBack v).inputs = s.inputs := rfl
@[simp] theorem giveBack_hostData (s : State) (v : Word) : (s.giveBack v).hostData = some v := rfl
@[simp] theorem giveBack_calls (s : State) (v : Word) : (s.giveBack v).calls = s.calls := rfl
@[simp] theorem giveBack_txStream (s : State) (v : Word) : (s.giveBack v).txStream = s.txStream := rfl
@[simp] theorem giveBack_rxStream (s : State) (v : Word) : (s.giveBack v).rxStream = s.rxStream := rfl
@[simp] theorem giveBack_epoch (s : State) (v : Word) : (s.giveBack v).epoch = s.epoch := rfl
@[simp] theorem giveBack_draws (s : State) (v : Word) : (s.giveBack v).draws = s.draws := rfl

/-! ### COLL (R26) -/

@[simp] theorem setColl_busy (s : State) : (s.setColl).busy = s.busy := rfl
@[simp] theorem setColl_done (s : State) : (s.setColl).done = s.done := rfl
@[simp] theorem setColl_coll (s : State) : (s.setColl).coll = true := rfl
@[simp] theorem setColl_rxValid (s : State) : (s.setColl).rxValid = s.rxValid := rfl
@[simp] theorem setColl_err (s : State) : (s.setColl).err = s.err := rfl
@[simp] theorem setColl_endPhase (s : State) : (s.setColl).endPhase = s.endPhase := rfl
@[simp] theorem setColl_detail (s : State) : (s.setColl).detail = s.detail := rfl
@[simp] theorem setColl_lastOp (s : State) : (s.setColl).lastOp = s.lastOp := rfl
@[simp] theorem setColl_arg (s : State) : (s.setColl).arg = s.arg := rfl
@[simp] theorem setColl_slave (s : State) : (s.setColl).slave = s.slave := rfl
@[simp] theorem setColl_budget (s : State) : (s.setColl).budget = s.budget := rfl
@[simp] theorem setColl_mark (s : State) : (s.setColl).mark = s.mark := rfl
@[simp] theorem setColl_crc (s : State) : (s.setColl).crc = s.crc := rfl
@[simp] theorem setColl_result (s : State) : (s.setColl).result = s.result := rfl
@[simp] theorem setColl_txLen (s : State) : (s.setColl).txLen = s.txLen := rfl
@[simp] theorem setColl_txWritten (s : State) : (s.setColl).txWritten = s.txWritten := rfl
@[simp] theorem setColl_rxCount (s : State) : (s.setColl).rxCount = s.rxCount := rfl
@[simp] theorem setColl_rxNeed (s : State) : (s.setColl).rxNeed = s.rxNeed := rfl
@[simp] theorem setColl_rxPduLen (s : State) : (s.setColl).rxPduLen = s.rxPduLen := rfl
@[simp] theorem setColl_flushCount (s : State) : (s.setColl).flushCount = s.flushCount := rfl
@[simp] theorem setColl_flushPollMs (s : State) : (s.setColl).flushPollMs = s.flushPollMs := rfl
@[simp] theorem setColl_phase (s : State) : (s.setColl).phase = s.phase := rfl
@[simp] theorem setColl_sub (s : State) : (s.setColl).sub = s.sub := rfl
@[simp] theorem setColl_mem (s : State) : (s.setColl).mem = s.mem := rfl
@[simp] theorem setColl_linkOpen (s : State) : (s.setColl).linkOpen = s.linkOpen := rfl
@[simp] theorem setColl_now (s : State) : (s.setColl).now = s.now := rfl
@[simp] theorem setColl_resetAsserted (s : State) : (s.setColl).resetAsserted = s.resetAsserted := rfl
@[simp] theorem setColl_inputs (s : State) : (s.setColl).inputs = s.inputs := rfl
@[simp] theorem setColl_hostData (s : State) : (s.setColl).hostData = s.hostData := rfl
@[simp] theorem setColl_calls (s : State) : (s.setColl).calls = s.calls := rfl
@[simp] theorem setColl_txStream (s : State) : (s.setColl).txStream = s.txStream := rfl
@[simp] theorem setColl_rxStream (s : State) : (s.setColl).rxStream = s.rxStream := rfl
@[simp] theorem setColl_epoch (s : State) : (s.setColl).epoch = s.epoch := rfl
@[simp] theorem setColl_draws (s : State) : (s.setColl).draws = s.draws := rfl

/-! ### Bytes taken by the transport (R177) -/

@[simp] theorem transmit_busy (s : State) (l : List Byte) (k : Nat) : (s.transmit l k).busy = s.busy := rfl
@[simp] theorem transmit_done (s : State) (l : List Byte) (k : Nat) : (s.transmit l k).done = s.done := rfl
@[simp] theorem transmit_coll (s : State) (l : List Byte) (k : Nat) : (s.transmit l k).coll = s.coll := rfl
@[simp] theorem transmit_rxValid (s : State) (l : List Byte) (k : Nat) : (s.transmit l k).rxValid = s.rxValid := rfl
@[simp] theorem transmit_err (s : State) (l : List Byte) (k : Nat) : (s.transmit l k).err = s.err := rfl
@[simp] theorem transmit_endPhase (s : State) (l : List Byte) (k : Nat) : (s.transmit l k).endPhase = s.endPhase := rfl
@[simp] theorem transmit_detail (s : State) (l : List Byte) (k : Nat) : (s.transmit l k).detail = s.detail := rfl
@[simp] theorem transmit_lastOp (s : State) (l : List Byte) (k : Nat) : (s.transmit l k).lastOp = s.lastOp := rfl
@[simp] theorem transmit_arg (s : State) (l : List Byte) (k : Nat) : (s.transmit l k).arg = s.arg := rfl
@[simp] theorem transmit_slave (s : State) (l : List Byte) (k : Nat) : (s.transmit l k).slave = s.slave := rfl
@[simp] theorem transmit_budget (s : State) (l : List Byte) (k : Nat) : (s.transmit l k).budget = s.budget := rfl
@[simp] theorem transmit_mark (s : State) (l : List Byte) (k : Nat) : (s.transmit l k).mark = s.mark := rfl
@[simp] theorem transmit_crc (s : State) (l : List Byte) (k : Nat) : (s.transmit l k).crc = s.crc := rfl
@[simp] theorem transmit_result (s : State) (l : List Byte) (k : Nat) : (s.transmit l k).result = s.result := rfl
@[simp] theorem transmit_txLen (s : State) (l : List Byte) (k : Nat) : (s.transmit l k).txLen = s.txLen := rfl
@[simp] theorem transmit_txWritten (s : State) (l : List Byte) (k : Nat) : (s.transmit l k).txWritten = s.txWritten + BitVec.ofNat 16 k := rfl
@[simp] theorem transmit_rxCount (s : State) (l : List Byte) (k : Nat) : (s.transmit l k).rxCount = s.rxCount := rfl
@[simp] theorem transmit_rxNeed (s : State) (l : List Byte) (k : Nat) : (s.transmit l k).rxNeed = s.rxNeed := rfl
@[simp] theorem transmit_rxPduLen (s : State) (l : List Byte) (k : Nat) : (s.transmit l k).rxPduLen = s.rxPduLen := rfl
@[simp] theorem transmit_flushCount (s : State) (l : List Byte) (k : Nat) : (s.transmit l k).flushCount = s.flushCount := rfl
@[simp] theorem transmit_flushPollMs (s : State) (l : List Byte) (k : Nat) : (s.transmit l k).flushPollMs = s.flushPollMs := rfl
@[simp] theorem transmit_phase (s : State) (l : List Byte) (k : Nat) : (s.transmit l k).phase = s.phase := rfl
@[simp] theorem transmit_sub (s : State) (l : List Byte) (k : Nat) : (s.transmit l k).sub = s.sub := rfl
@[simp] theorem transmit_mem (s : State) (l : List Byte) (k : Nat) : (s.transmit l k).mem = s.mem := rfl
@[simp] theorem transmit_linkOpen (s : State) (l : List Byte) (k : Nat) : (s.transmit l k).linkOpen = s.linkOpen := rfl
@[simp] theorem transmit_now (s : State) (l : List Byte) (k : Nat) : (s.transmit l k).now = s.now := rfl
@[simp] theorem transmit_resetAsserted (s : State) (l : List Byte) (k : Nat) : (s.transmit l k).resetAsserted = s.resetAsserted := rfl
@[simp] theorem transmit_inputs (s : State) (l : List Byte) (k : Nat) : (s.transmit l k).inputs = s.inputs := rfl
@[simp] theorem transmit_hostData (s : State) (l : List Byte) (k : Nat) : (s.transmit l k).hostData = s.hostData := rfl
@[simp] theorem transmit_calls (s : State) (l : List Byte) (k : Nat) : (s.transmit l k).calls = s.calls := rfl
@[simp] theorem transmit_txStream (s : State) (l : List Byte) (k : Nat) : (s.transmit l k).txStream = s.txStream ++ l.take k := rfl
@[simp] theorem transmit_rxStream (s : State) (l : List Byte) (k : Nat) : (s.transmit l k).rxStream = s.rxStream := rfl
@[simp] theorem transmit_epoch (s : State) (l : List Byte) (k : Nat) : (s.transmit l k).epoch = s.epoch := rfl
@[simp] theorem transmit_draws (s : State) (l : List Byte) (k : Nat) : (s.transmit l k).draws = s.draws := rfl

/-! ### Bytes delivered by the transport (R72) -/

@[simp] theorem deliver_busy (s : State) (l : List Byte) : (s.deliver l).busy = s.busy := rfl
@[simp] theorem deliver_done (s : State) (l : List Byte) : (s.deliver l).done = s.done := rfl
@[simp] theorem deliver_coll (s : State) (l : List Byte) : (s.deliver l).coll = s.coll := rfl
@[simp] theorem deliver_rxValid (s : State) (l : List Byte) : (s.deliver l).rxValid = s.rxValid := rfl
@[simp] theorem deliver_err (s : State) (l : List Byte) : (s.deliver l).err = s.err := rfl
@[simp] theorem deliver_endPhase (s : State) (l : List Byte) : (s.deliver l).endPhase = s.endPhase := rfl
@[simp] theorem deliver_detail (s : State) (l : List Byte) : (s.deliver l).detail = s.detail := rfl
@[simp] theorem deliver_lastOp (s : State) (l : List Byte) : (s.deliver l).lastOp = s.lastOp := rfl
@[simp] theorem deliver_arg (s : State) (l : List Byte) : (s.deliver l).arg = s.arg := rfl
@[simp] theorem deliver_slave (s : State) (l : List Byte) : (s.deliver l).slave = s.slave := rfl
@[simp] theorem deliver_budget (s : State) (l : List Byte) : (s.deliver l).budget = s.budget := rfl
@[simp] theorem deliver_mark (s : State) (l : List Byte) : (s.deliver l).mark = s.mark := rfl
@[simp] theorem deliver_crc (s : State) (l : List Byte) : (s.deliver l).crc = s.crc := rfl
@[simp] theorem deliver_result (s : State) (l : List Byte) : (s.deliver l).result = s.result := rfl
@[simp] theorem deliver_txLen (s : State) (l : List Byte) : (s.deliver l).txLen = s.txLen := rfl
@[simp] theorem deliver_txWritten (s : State) (l : List Byte) : (s.deliver l).txWritten = s.txWritten := rfl
@[simp] theorem deliver_rxCount (s : State) (l : List Byte) : (s.deliver l).rxCount = s.rxCount := rfl
@[simp] theorem deliver_rxNeed (s : State) (l : List Byte) : (s.deliver l).rxNeed = s.rxNeed := rfl
@[simp] theorem deliver_rxPduLen (s : State) (l : List Byte) : (s.deliver l).rxPduLen = s.rxPduLen := rfl
@[simp] theorem deliver_flushCount (s : State) (l : List Byte) : (s.deliver l).flushCount = s.flushCount := rfl
@[simp] theorem deliver_flushPollMs (s : State) (l : List Byte) : (s.deliver l).flushPollMs = s.flushPollMs := rfl
@[simp] theorem deliver_phase (s : State) (l : List Byte) : (s.deliver l).phase = s.phase := rfl
@[simp] theorem deliver_sub (s : State) (l : List Byte) : (s.deliver l).sub = s.sub := rfl
@[simp] theorem deliver_mem (s : State) (l : List Byte) : (s.deliver l).mem = s.mem := rfl
@[simp] theorem deliver_linkOpen (s : State) (l : List Byte) : (s.deliver l).linkOpen = s.linkOpen := rfl
@[simp] theorem deliver_now (s : State) (l : List Byte) : (s.deliver l).now = s.now := rfl
@[simp] theorem deliver_resetAsserted (s : State) (l : List Byte) : (s.deliver l).resetAsserted = s.resetAsserted := rfl
@[simp] theorem deliver_inputs (s : State) (l : List Byte) : (s.deliver l).inputs = s.inputs := rfl
@[simp] theorem deliver_hostData (s : State) (l : List Byte) : (s.deliver l).hostData = s.hostData := rfl
@[simp] theorem deliver_calls (s : State) (l : List Byte) : (s.deliver l).calls = s.calls := rfl
@[simp] theorem deliver_txStream (s : State) (l : List Byte) : (s.deliver l).txStream = s.txStream := rfl
@[simp] theorem deliver_rxStream (s : State) (l : List Byte) : (s.deliver l).rxStream = s.rxStream ++ l := rfl
@[simp] theorem deliver_epoch (s : State) (l : List Byte) : (s.deliver l).epoch = s.epoch := rfl
@[simp] theorem deliver_draws (s : State) (l : List Byte) : (s.deliver l).draws = s.draws := rfl

/-! ### RX_COUNT (R178) -/

@[simp] theorem addRxCount_busy (s : State) (n : Nat) : (s.addRxCount n).busy = s.busy := rfl
@[simp] theorem addRxCount_done (s : State) (n : Nat) : (s.addRxCount n).done = s.done := rfl
@[simp] theorem addRxCount_coll (s : State) (n : Nat) : (s.addRxCount n).coll = s.coll := rfl
@[simp] theorem addRxCount_rxValid (s : State) (n : Nat) : (s.addRxCount n).rxValid = s.rxValid := rfl
@[simp] theorem addRxCount_err (s : State) (n : Nat) : (s.addRxCount n).err = s.err := rfl
@[simp] theorem addRxCount_endPhase (s : State) (n : Nat) : (s.addRxCount n).endPhase = s.endPhase := rfl
@[simp] theorem addRxCount_detail (s : State) (n : Nat) : (s.addRxCount n).detail = s.detail := rfl
@[simp] theorem addRxCount_lastOp (s : State) (n : Nat) : (s.addRxCount n).lastOp = s.lastOp := rfl
@[simp] theorem addRxCount_arg (s : State) (n : Nat) : (s.addRxCount n).arg = s.arg := rfl
@[simp] theorem addRxCount_slave (s : State) (n : Nat) : (s.addRxCount n).slave = s.slave := rfl
@[simp] theorem addRxCount_budget (s : State) (n : Nat) : (s.addRxCount n).budget = s.budget := rfl
@[simp] theorem addRxCount_mark (s : State) (n : Nat) : (s.addRxCount n).mark = s.mark := rfl
@[simp] theorem addRxCount_crc (s : State) (n : Nat) : (s.addRxCount n).crc = s.crc := rfl
@[simp] theorem addRxCount_result (s : State) (n : Nat) : (s.addRxCount n).result = s.result := rfl
@[simp] theorem addRxCount_txLen (s : State) (n : Nat) : (s.addRxCount n).txLen = s.txLen := rfl
@[simp] theorem addRxCount_txWritten (s : State) (n : Nat) : (s.addRxCount n).txWritten = s.txWritten := rfl
@[simp] theorem addRxCount_rxCount (s : State) (n : Nat) : (s.addRxCount n).rxCount = s.rxCount + BitVec.ofNat 16 n := rfl
@[simp] theorem addRxCount_rxNeed (s : State) (n : Nat) : (s.addRxCount n).rxNeed = s.rxNeed := rfl
@[simp] theorem addRxCount_rxPduLen (s : State) (n : Nat) : (s.addRxCount n).rxPduLen = s.rxPduLen := rfl
@[simp] theorem addRxCount_flushCount (s : State) (n : Nat) : (s.addRxCount n).flushCount = s.flushCount := rfl
@[simp] theorem addRxCount_flushPollMs (s : State) (n : Nat) : (s.addRxCount n).flushPollMs = s.flushPollMs := rfl
@[simp] theorem addRxCount_phase (s : State) (n : Nat) : (s.addRxCount n).phase = s.phase := rfl
@[simp] theorem addRxCount_sub (s : State) (n : Nat) : (s.addRxCount n).sub = s.sub := rfl
@[simp] theorem addRxCount_mem (s : State) (n : Nat) : (s.addRxCount n).mem = s.mem := rfl
@[simp] theorem addRxCount_linkOpen (s : State) (n : Nat) : (s.addRxCount n).linkOpen = s.linkOpen := rfl
@[simp] theorem addRxCount_now (s : State) (n : Nat) : (s.addRxCount n).now = s.now := rfl
@[simp] theorem addRxCount_resetAsserted (s : State) (n : Nat) : (s.addRxCount n).resetAsserted = s.resetAsserted := rfl
@[simp] theorem addRxCount_inputs (s : State) (n : Nat) : (s.addRxCount n).inputs = s.inputs := rfl
@[simp] theorem addRxCount_hostData (s : State) (n : Nat) : (s.addRxCount n).hostData = s.hostData := rfl
@[simp] theorem addRxCount_calls (s : State) (n : Nat) : (s.addRxCount n).calls = s.calls := rfl
@[simp] theorem addRxCount_txStream (s : State) (n : Nat) : (s.addRxCount n).txStream = s.txStream := rfl
@[simp] theorem addRxCount_rxStream (s : State) (n : Nat) : (s.addRxCount n).rxStream = s.rxStream := rfl
@[simp] theorem addRxCount_epoch (s : State) (n : Nat) : (s.addRxCount n).epoch = s.epoch := rfl
@[simp] theorem addRxCount_draws (s : State) (n : Nat) : (s.addRxCount n).draws = s.draws := rfl

/-! ### FLUSH_COUNT (R179) -/

@[simp] theorem addFlushCount_busy (s : State) (n : Nat) : (s.addFlushCount n).busy = s.busy := rfl
@[simp] theorem addFlushCount_done (s : State) (n : Nat) : (s.addFlushCount n).done = s.done := rfl
@[simp] theorem addFlushCount_coll (s : State) (n : Nat) : (s.addFlushCount n).coll = s.coll := rfl
@[simp] theorem addFlushCount_rxValid (s : State) (n : Nat) : (s.addFlushCount n).rxValid = s.rxValid := rfl
@[simp] theorem addFlushCount_err (s : State) (n : Nat) : (s.addFlushCount n).err = s.err := rfl
@[simp] theorem addFlushCount_endPhase (s : State) (n : Nat) : (s.addFlushCount n).endPhase = s.endPhase := rfl
@[simp] theorem addFlushCount_detail (s : State) (n : Nat) : (s.addFlushCount n).detail = s.detail := rfl
@[simp] theorem addFlushCount_lastOp (s : State) (n : Nat) : (s.addFlushCount n).lastOp = s.lastOp := rfl
@[simp] theorem addFlushCount_arg (s : State) (n : Nat) : (s.addFlushCount n).arg = s.arg := rfl
@[simp] theorem addFlushCount_slave (s : State) (n : Nat) : (s.addFlushCount n).slave = s.slave := rfl
@[simp] theorem addFlushCount_budget (s : State) (n : Nat) : (s.addFlushCount n).budget = s.budget := rfl
@[simp] theorem addFlushCount_mark (s : State) (n : Nat) : (s.addFlushCount n).mark = s.mark := rfl
@[simp] theorem addFlushCount_crc (s : State) (n : Nat) : (s.addFlushCount n).crc = s.crc := rfl
@[simp] theorem addFlushCount_result (s : State) (n : Nat) : (s.addFlushCount n).result = s.result := rfl
@[simp] theorem addFlushCount_txLen (s : State) (n : Nat) : (s.addFlushCount n).txLen = s.txLen := rfl
@[simp] theorem addFlushCount_txWritten (s : State) (n : Nat) : (s.addFlushCount n).txWritten = s.txWritten := rfl
@[simp] theorem addFlushCount_rxCount (s : State) (n : Nat) : (s.addFlushCount n).rxCount = s.rxCount := rfl
@[simp] theorem addFlushCount_rxNeed (s : State) (n : Nat) : (s.addFlushCount n).rxNeed = s.rxNeed := rfl
@[simp] theorem addFlushCount_rxPduLen (s : State) (n : Nat) : (s.addFlushCount n).rxPduLen = s.rxPduLen := rfl
@[simp] theorem addFlushCount_flushCount (s : State) (n : Nat) : (s.addFlushCount n).flushCount = s.flushCount + BitVec.ofNat 32 n := rfl
@[simp] theorem addFlushCount_flushPollMs (s : State) (n : Nat) : (s.addFlushCount n).flushPollMs = s.flushPollMs := rfl
@[simp] theorem addFlushCount_phase (s : State) (n : Nat) : (s.addFlushCount n).phase = s.phase := rfl
@[simp] theorem addFlushCount_sub (s : State) (n : Nat) : (s.addFlushCount n).sub = s.sub := rfl
@[simp] theorem addFlushCount_mem (s : State) (n : Nat) : (s.addFlushCount n).mem = s.mem := rfl
@[simp] theorem addFlushCount_linkOpen (s : State) (n : Nat) : (s.addFlushCount n).linkOpen = s.linkOpen := rfl
@[simp] theorem addFlushCount_now (s : State) (n : Nat) : (s.addFlushCount n).now = s.now := rfl
@[simp] theorem addFlushCount_resetAsserted (s : State) (n : Nat) : (s.addFlushCount n).resetAsserted = s.resetAsserted := rfl
@[simp] theorem addFlushCount_inputs (s : State) (n : Nat) : (s.addFlushCount n).inputs = s.inputs := rfl
@[simp] theorem addFlushCount_hostData (s : State) (n : Nat) : (s.addFlushCount n).hostData = s.hostData := rfl
@[simp] theorem addFlushCount_calls (s : State) (n : Nat) : (s.addFlushCount n).calls = s.calls := rfl
@[simp] theorem addFlushCount_txStream (s : State) (n : Nat) : (s.addFlushCount n).txStream = s.txStream := rfl
@[simp] theorem addFlushCount_rxStream (s : State) (n : Nat) : (s.addFlushCount n).rxStream = s.rxStream := rfl
@[simp] theorem addFlushCount_epoch (s : State) (n : Nat) : (s.addFlushCount n).epoch = s.epoch := rfl
@[simp] theorem addFlushCount_draws (s : State) (n : Nat) : (s.addFlushCount n).draws = s.draws := rfl

/-! ### Reset (R260) -/

@[simp] theorem resetBlock_busy (s : State) : (s.resetBlock).busy = false := rfl
@[simp] theorem resetBlock_done (s : State) : (s.resetBlock).done = false := rfl
@[simp] theorem resetBlock_coll (s : State) : (s.resetBlock).coll = false := rfl
@[simp] theorem resetBlock_rxValid (s : State) : (s.resetBlock).rxValid = false := rfl
@[simp] theorem resetBlock_err (s : State) : (s.resetBlock).err = .success := rfl
@[simp] theorem resetBlock_endPhase (s : State) : (s.resetBlock).endPhase = .idle := rfl
@[simp] theorem resetBlock_detail (s : State) : (s.resetBlock).detail = 0 := rfl
@[simp] theorem resetBlock_lastOp (s : State) : (s.resetBlock).lastOp = 0 := rfl
@[simp] theorem resetBlock_arg (s : State) : (s.resetBlock).arg = 0 := rfl
@[simp] theorem resetBlock_slave (s : State) : (s.resetBlock).slave = 0 := rfl
@[simp] theorem resetBlock_budget (s : State) : (s.resetBlock).budget = 0 := rfl
@[simp] theorem resetBlock_mark (s : State) : (s.resetBlock).mark = 0 := rfl
@[simp] theorem resetBlock_crc (s : State) : (s.resetBlock).crc = 0xFFFF := rfl
@[simp] theorem resetBlock_result (s : State) : (s.resetBlock).result = 0 := rfl
@[simp] theorem resetBlock_txLen (s : State) : (s.resetBlock).txLen = 0 := rfl
@[simp] theorem resetBlock_txWritten (s : State) : (s.resetBlock).txWritten = 0 := rfl
@[simp] theorem resetBlock_rxCount (s : State) : (s.resetBlock).rxCount = 0 := rfl
@[simp] theorem resetBlock_rxNeed (s : State) : (s.resetBlock).rxNeed = 0 := rfl
@[simp] theorem resetBlock_rxPduLen (s : State) : (s.resetBlock).rxPduLen = 0 := rfl
@[simp] theorem resetBlock_flushCount (s : State) : (s.resetBlock).flushCount = 0 := rfl
@[simp] theorem resetBlock_flushPollMs (s : State) : (s.resetBlock).flushPollMs = 0 := rfl
@[simp] theorem resetBlock_phase (s : State) : (s.resetBlock).phase = .idle := rfl
@[simp] theorem resetBlock_sub (s : State) : (s.resetBlock).sub = .poll := rfl
@[simp] theorem resetBlock_mem (s : State) : (s.resetBlock).mem = [] := rfl
@[simp] theorem resetBlock_linkOpen (s : State) : (s.resetBlock).linkOpen = s.linkOpen := rfl
@[simp] theorem resetBlock_now (s : State) : (s.resetBlock).now = s.now := rfl
@[simp] theorem resetBlock_resetAsserted (s : State) : (s.resetBlock).resetAsserted = s.resetAsserted := rfl
@[simp] theorem resetBlock_inputs (s : State) : (s.resetBlock).inputs = s.inputs := rfl
@[simp] theorem resetBlock_hostData (s : State) : (s.resetBlock).hostData = s.hostData := rfl
@[simp] theorem resetBlock_calls (s : State) : (s.resetBlock).calls = s.calls := rfl
@[simp] theorem resetBlock_txStream (s : State) : (s.resetBlock).txStream = s.txStream := rfl
@[simp] theorem resetBlock_rxStream (s : State) : (s.resetBlock).rxStream = s.rxStream := rfl
@[simp] theorem resetBlock_epoch (s : State) : (s.resetBlock).epoch = s.epoch + 1 := rfl
@[simp] theorem resetBlock_draws (s : State) : (s.resetBlock).draws = s.draws := rfl

/-! ### ADU assembly (R172) -/

@[simp] theorem buildAdu_busy (s : State) (n : Nat) : (s.buildAdu n).busy = s.busy := by simp [State.buildAdu]
@[simp] theorem buildAdu_done (s : State) (n : Nat) : (s.buildAdu n).done = s.done := by simp [State.buildAdu]
@[simp] theorem buildAdu_coll (s : State) (n : Nat) : (s.buildAdu n).coll = s.coll := by simp [State.buildAdu]
@[simp] theorem buildAdu_rxValid (s : State) (n : Nat) : (s.buildAdu n).rxValid = s.rxValid := by simp [State.buildAdu]
@[simp] theorem buildAdu_err (s : State) (n : Nat) : (s.buildAdu n).err = s.err := by simp [State.buildAdu]
@[simp] theorem buildAdu_endPhase (s : State) (n : Nat) : (s.buildAdu n).endPhase = s.endPhase := by simp [State.buildAdu]
@[simp] theorem buildAdu_detail (s : State) (n : Nat) : (s.buildAdu n).detail = s.detail := by simp [State.buildAdu]
@[simp] theorem buildAdu_lastOp (s : State) (n : Nat) : (s.buildAdu n).lastOp = s.lastOp := by simp [State.buildAdu]
@[simp] theorem buildAdu_arg (s : State) (n : Nat) : (s.buildAdu n).arg = s.arg := by simp [State.buildAdu]
@[simp] theorem buildAdu_slave (s : State) (n : Nat) : (s.buildAdu n).slave = s.slave := by simp [State.buildAdu]
@[simp] theorem buildAdu_budget (s : State) (n : Nat) : (s.buildAdu n).budget = s.budget := by simp [State.buildAdu]
@[simp] theorem buildAdu_mark (s : State) (n : Nat) : (s.buildAdu n).mark = s.mark := by simp [State.buildAdu]
@[simp] theorem buildAdu_crc (s : State) (n : Nat) : (s.buildAdu n).crc = crc16 ((s.setByte Config.txBase s.slave).txBytes 0 (n + 1)) := by simp [State.buildAdu]
@[simp] theorem buildAdu_result (s : State) (n : Nat) : (s.buildAdu n).result = s.result := by simp [State.buildAdu]
@[simp] theorem buildAdu_txLen (s : State) (n : Nat) : (s.buildAdu n).txLen = BitVec.ofNat 16 (n + 3) := by simp [State.buildAdu]
@[simp] theorem buildAdu_txWritten (s : State) (n : Nat) : (s.buildAdu n).txWritten = 0 := by simp [State.buildAdu]
@[simp] theorem buildAdu_rxCount (s : State) (n : Nat) : (s.buildAdu n).rxCount = s.rxCount := by simp [State.buildAdu]
@[simp] theorem buildAdu_rxNeed (s : State) (n : Nat) : (s.buildAdu n).rxNeed = s.rxNeed := by simp [State.buildAdu]
@[simp] theorem buildAdu_rxPduLen (s : State) (n : Nat) : (s.buildAdu n).rxPduLen = s.rxPduLen := by simp [State.buildAdu]
@[simp] theorem buildAdu_flushCount (s : State) (n : Nat) : (s.buildAdu n).flushCount = s.flushCount := by simp [State.buildAdu]
@[simp] theorem buildAdu_flushPollMs (s : State) (n : Nat) : (s.buildAdu n).flushPollMs = s.flushPollMs := by simp [State.buildAdu]
@[simp] theorem buildAdu_phase (s : State) (n : Nat) : (s.buildAdu n).phase = s.phase := by simp [State.buildAdu]
@[simp] theorem buildAdu_sub (s : State) (n : Nat) : (s.buildAdu n).sub = s.sub := by simp [State.buildAdu]
@[simp] theorem buildAdu_linkOpen (s : State) (n : Nat) : (s.buildAdu n).linkOpen = s.linkOpen := by simp [State.buildAdu]
@[simp] theorem buildAdu_now (s : State) (n : Nat) : (s.buildAdu n).now = s.now := by simp [State.buildAdu]
@[simp] theorem buildAdu_resetAsserted (s : State) (n : Nat) : (s.buildAdu n).resetAsserted = s.resetAsserted := by simp [State.buildAdu]
@[simp] theorem buildAdu_inputs (s : State) (n : Nat) : (s.buildAdu n).inputs = s.inputs := by simp [State.buildAdu]
@[simp] theorem buildAdu_hostData (s : State) (n : Nat) : (s.buildAdu n).hostData = s.hostData := by simp [State.buildAdu]
@[simp] theorem buildAdu_calls (s : State) (n : Nat) : (s.buildAdu n).calls = s.calls := by simp [State.buildAdu]
@[simp] theorem buildAdu_txStream (s : State) (n : Nat) : (s.buildAdu n).txStream = s.txStream := by simp [State.buildAdu]
@[simp] theorem buildAdu_rxStream (s : State) (n : Nat) : (s.buildAdu n).rxStream = s.rxStream := by simp [State.buildAdu]
@[simp] theorem buildAdu_epoch (s : State) (n : Nat) : (s.buildAdu n).epoch = s.epoch := by simp [State.buildAdu]
@[simp] theorem buildAdu_draws (s : State) (n : Nat) : (s.buildAdu n).draws = s.draws := by simp [State.buildAdu]

end Sys2Proof.Machine
end

