-- ==== Sys2Proof/Laws/Memory.lean ====
section
/-! SUPPORT. The laws of the frame buffers: read after write, the canonical form, byte sequences, and what storing a sequence
does. -/

namespace Sys2Proof.Machine

/-- Reading the address just written gives the byte written. -/
@[simp] theorem Memory.read_write_same (a : Nat) (b : Byte) (m : Memory) :
    Memory.read a (Memory.write a b m) = some b := by
  induction m with
  | nil => simp [Memory.write, Memory.read]
  | cons e m ih =>
    obtain ⟨k, v⟩ := e
    rcases Nat.lt_trichotomy a k with h | h | h
    · simp [Memory.write, Memory.read, h]
    · simp [Memory.write, Memory.read, h]
    · simp [Memory.write, Memory.read, Nat.not_lt.mpr h.le, h.ne', h.ne, ih]

/-- A write leaves every other address alone. -/
theorem Memory.read_write_other {a x : Nat} (h : x ≠ a) (b : Byte) (m : Memory) :
    Memory.read x (Memory.write a b m) = Memory.read x m := by
  induction m with
  | nil => simp [Memory.write, Memory.read, h.symm]
  | cons e m ih =>
    obtain ⟨k, v⟩ := e
    rcases Nat.lt_trichotomy a k with h1 | h1 | h1
    · simp only [Memory.write, Memory.read, h1, if_true]
      split_ifs <;> first | rfl | omega
    · subst h1
      simp [Memory.write, Memory.read, h.symm]
    · simp only [Memory.write, Memory.read, Nat.not_lt.mpr h1.le, h1.ne', if_false, ih]

/-- A write of a buffer byte keeps the canonical form above a bound. -/
theorem Memory.risesFrom_write {lo a : Nat} (b : Byte) {m : Memory} (hw : (inTxWindow a || inRxWindow a) = true)
    (hlo : lo ≤ a) (hm : Memory.risesFrom lo m = true) : Memory.risesFrom lo (Memory.write a b m) = true := by
  induction m generalizing lo with
  | nil => simp_all [Memory.write, Memory.risesFrom]
  | cons e m ih =>
    obtain ⟨k, v⟩ := e
    simp only [Memory.risesFrom, Bool.and_eq_true, decide_eq_true_eq] at hm
    rcases Nat.lt_trichotomy a k with h | h | h
    · simp [Memory.write, Memory.risesFrom, h, hw, hlo, hm]
    · subst h
      simp [Memory.write, Memory.risesFrom, hw, hlo, hm]
    · simp [Memory.write, Memory.risesFrom, Nat.not_lt.mpr h.le, h.ne', hm, ih (lo := k + 1) h hm.2]

/-- Every memory operation keeps the canonical form: a write of a buffer byte does. -/
theorem Memory.wf_write {a : Nat} (b : Byte) {m : Memory} (hw : (inTxWindow a || inRxWindow a) = true)
    (hm : Memory.wf m = true) : Memory.wf (Memory.write a b m) = true :=
  Memory.risesFrom_write b hw (Nat.zero_le a) hm

/-- The buffers right after reset are in canonical form. -/
theorem reset_mem_wf : Memory.wf State.reset.mem = true := rfl

@[simp] theorem byteAt_setByte_same (s : State) (a : Nat) (b : Byte) : (s.setByte a b).byteAt a = b := by
  simp [State.byteAt]

theorem byteAt_setByte_other (s : State) {a x : Nat} (b : Byte) (h : x ≠ a) : (s.setByte a b).byteAt x = s.byteAt x := by
  simp [State.byteAt, Memory.read_write_other h]

/-- A byte reads the same in two states with the same buffers and the same draw. -/
theorem byteAt_congr {s t : State} (hm : t.mem = s.mem) (he : t.epoch = s.epoch) (a : Nat) : t.byteAt a = s.byteAt a := by
  simp [State.byteAt, hm, he]

/-- A slice of TXBUF reads the same in two states that agree on its bytes. -/
theorem txBytes_congr {s t : State} {i j : Nat} (h : ∀ k, i ≤ k → k < j → t.tx k = s.tx k) :
    t.txBytes i j = s.txBytes i j := by
  unfold State.txBytes
  apply List.map_congr_left
  intro k hk
  rw [List.mem_range'_1] at hk
  exact h k hk.1 (by omega)

/-- A slice of RXBUF reads the same in two states that agree on its bytes. -/
theorem rxBytes_congr {s t : State} {i j : Nat} (h : ∀ k, i ≤ k → k < j → t.rx k = s.rx k) :
    t.rxBytes i j = s.rxBytes i j := by
  unfold State.rxBytes
  apply List.map_congr_left
  intro k hk
  rw [List.mem_range'_1] at hk
  exact h k hk.1 (by omega)

@[simp] theorem txBytes_length (s : State) (i j : Nat) : (s.txBytes i j).length = j - i := by
  simp [State.txBytes]

@[simp] theorem rxBytes_length (s : State) (i j : Nat) : (s.rxBytes i j).length = j - i := by
  simp [State.rxBytes]

/-- Storing a sequence changes nothing but the buffers. -/
theorem storeRx_eq (s : State) (i : Nat) (bs : List Byte) :
    s.storeRx i bs = { s with mem := (s.storeRx i bs).mem } := by
  induction bs generalizing s i with
  | nil => rfl
  | cons b bs ih =>
    have h := ih (s.setByte (Config.rxBase + i) b) (i + 1)
    simp only [State.storeRx]
    rw [h]
    rfl

@[simp] theorem storeRx_busy (s : State) (i : Nat) (l : List Byte) : (s.storeRx i l).busy = s.busy := by
  rw [storeRx_eq]

@[simp] theorem storeRx_done (s : State) (i : Nat) (l : List Byte) : (s.storeRx i l).done = s.done := by
  rw [storeRx_eq]

@[simp] theorem storeRx_coll (s : State) (i : Nat) (l : List Byte) : (s.storeRx i l).coll = s.coll := by
  rw [storeRx_eq]

@[simp] theorem storeRx_rxValid (s : State) (i : Nat) (l : List Byte) : (s.storeRx i l).rxValid = s.rxValid := by
  rw [storeRx_eq]

@[simp] theorem storeRx_err (s : State) (i : Nat) (l : List Byte) : (s.storeRx i l).err = s.err := by
  rw [storeRx_eq]

@[simp] theorem storeRx_endPhase (s : State) (i : Nat) (l : List Byte) : (s.storeRx i l).endPhase = s.endPhase := by
  rw [storeRx_eq]

@[simp] theorem storeRx_detail (s : State) (i : Nat) (l : List Byte) : (s.storeRx i l).detail = s.detail := by
  rw [storeRx_eq]

@[simp] theorem storeRx_lastOp (s : State) (i : Nat) (l : List Byte) : (s.storeRx i l).lastOp = s.lastOp := by
  rw [storeRx_eq]

@[simp] theorem storeRx_arg (s : State) (i : Nat) (l : List Byte) : (s.storeRx i l).arg = s.arg := by
  rw [storeRx_eq]

@[simp] theorem storeRx_slave (s : State) (i : Nat) (l : List Byte) : (s.storeRx i l).slave = s.slave := by
  rw [storeRx_eq]

@[simp] theorem storeRx_budget (s : State) (i : Nat) (l : List Byte) : (s.storeRx i l).budget = s.budget := by
  rw [storeRx_eq]

@[simp] theorem storeRx_mark (s : State) (i : Nat) (l : List Byte) : (s.storeRx i l).mark = s.mark := by
  rw [storeRx_eq]

@[simp] theorem storeRx_crc (s : State) (i : Nat) (l : List Byte) : (s.storeRx i l).crc = s.crc := by
  rw [storeRx_eq]

@[simp] theorem storeRx_result (s : State) (i : Nat) (l : List Byte) : (s.storeRx i l).result = s.result := by
  rw [storeRx_eq]

@[simp] theorem storeRx_txLen (s : State) (i : Nat) (l : List Byte) : (s.storeRx i l).txLen = s.txLen := by
  rw [storeRx_eq]

@[simp] theorem storeRx_txWritten (s : State) (i : Nat) (l : List Byte) : (s.storeRx i l).txWritten = s.txWritten := by
  rw [storeRx_eq]

@[simp] theorem storeRx_rxCount (s : State) (i : Nat) (l : List Byte) : (s.storeRx i l).rxCount = s.rxCount := by
  rw [storeRx_eq]

@[simp] theorem storeRx_rxNeed (s : State) (i : Nat) (l : List Byte) : (s.storeRx i l).rxNeed = s.rxNeed := by
  rw [storeRx_eq]

@[simp] theorem storeRx_rxPduLen (s : State) (i : Nat) (l : List Byte) : (s.storeRx i l).rxPduLen = s.rxPduLen := by
  rw [storeRx_eq]

@[simp] theorem storeRx_flushCount (s : State) (i : Nat) (l : List Byte) : (s.storeRx i l).flushCount = s.flushCount := by
  rw [storeRx_eq]

@[simp] theorem storeRx_flushPollMs (s : State) (i : Nat) (l : List Byte) : (s.storeRx i l).flushPollMs = s.flushPollMs := by
  rw [storeRx_eq]

@[simp] theorem storeRx_phase (s : State) (i : Nat) (l : List Byte) : (s.storeRx i l).phase = s.phase := by
  rw [storeRx_eq]

@[simp] theorem storeRx_sub (s : State) (i : Nat) (l : List Byte) : (s.storeRx i l).sub = s.sub := by
  rw [storeRx_eq]

@[simp] theorem storeRx_linkOpen (s : State) (i : Nat) (l : List Byte) : (s.storeRx i l).linkOpen = s.linkOpen := by
  rw [storeRx_eq]

@[simp] theorem storeRx_now (s : State) (i : Nat) (l : List Byte) : (s.storeRx i l).now = s.now := by
  rw [storeRx_eq]

@[simp] theorem storeRx_resetAsserted (s : State) (i : Nat) (l : List Byte) : (s.storeRx i l).resetAsserted = s.resetAsserted := by
  rw [storeRx_eq]

@[simp] theorem storeRx_inputs (s : State) (i : Nat) (l : List Byte) : (s.storeRx i l).inputs = s.inputs := by
  rw [storeRx_eq]

@[simp] theorem storeRx_hostData (s : State) (i : Nat) (l : List Byte) : (s.storeRx i l).hostData = s.hostData := by
  rw [storeRx_eq]

@[simp] theorem storeRx_calls (s : State) (i : Nat) (l : List Byte) : (s.storeRx i l).calls = s.calls := by
  rw [storeRx_eq]

@[simp] theorem storeRx_txStream (s : State) (i : Nat) (l : List Byte) : (s.storeRx i l).txStream = s.txStream := by
  rw [storeRx_eq]

@[simp] theorem storeRx_rxStream (s : State) (i : Nat) (l : List Byte) : (s.storeRx i l).rxStream = s.rxStream := by
  rw [storeRx_eq]

@[simp] theorem storeRx_epoch (s : State) (i : Nat) (l : List Byte) : (s.storeRx i l).epoch = s.epoch := by
  rw [storeRx_eq]

@[simp] theorem storeRx_draws (s : State) (i : Nat) (l : List Byte) : (s.storeRx i l).draws = s.draws := by
  rw [storeRx_eq]

/-! Received bytes (R178): RXBUF and RX_COUNT change, and nothing else. -/

@[simp] theorem receive_busy (s : State) (l : List Byte) : (s.receive l).busy = s.busy := by simp [State.receive]

@[simp] theorem receive_done (s : State) (l : List Byte) : (s.receive l).done = s.done := by simp [State.receive]

@[simp] theorem receive_coll (s : State) (l : List Byte) : (s.receive l).coll = s.coll := by simp [State.receive]

@[simp] theorem receive_rxValid (s : State) (l : List Byte) : (s.receive l).rxValid = s.rxValid := by simp [State.receive]

@[simp] theorem receive_err (s : State) (l : List Byte) : (s.receive l).err = s.err := by simp [State.receive]

@[simp] theorem receive_endPhase (s : State) (l : List Byte) : (s.receive l).endPhase = s.endPhase := by simp [State.receive]

@[simp] theorem receive_detail (s : State) (l : List Byte) : (s.receive l).detail = s.detail := by simp [State.receive]

@[simp] theorem receive_lastOp (s : State) (l : List Byte) : (s.receive l).lastOp = s.lastOp := by simp [State.receive]

@[simp] theorem receive_arg (s : State) (l : List Byte) : (s.receive l).arg = s.arg := by simp [State.receive]

@[simp] theorem receive_slave (s : State) (l : List Byte) : (s.receive l).slave = s.slave := by simp [State.receive]

@[simp] theorem receive_budget (s : State) (l : List Byte) : (s.receive l).budget = s.budget := by simp [State.receive]

@[simp] theorem receive_mark (s : State) (l : List Byte) : (s.receive l).mark = s.mark := by simp [State.receive]

@[simp] theorem receive_crc (s : State) (l : List Byte) : (s.receive l).crc = s.crc := by simp [State.receive]

@[simp] theorem receive_result (s : State) (l : List Byte) : (s.receive l).result = s.result := by simp [State.receive]

@[simp] theorem receive_txLen (s : State) (l : List Byte) : (s.receive l).txLen = s.txLen := by simp [State.receive]

@[simp] theorem receive_txWritten (s : State) (l : List Byte) : (s.receive l).txWritten = s.txWritten := by simp [State.receive]

@[simp] theorem receive_rxCount (s : State) (l : List Byte) :
    (s.receive l).rxCount = s.rxCount + BitVec.ofNat 16 l.length := by simp [State.receive]

@[simp] theorem receive_rxNeed (s : State) (l : List Byte) : (s.receive l).rxNeed = s.rxNeed := by simp [State.receive]

@[simp] theorem receive_rxPduLen (s : State) (l : List Byte) : (s.receive l).rxPduLen = s.rxPduLen := by simp [State.receive]

@[simp] theorem receive_flushCount (s : State) (l : List Byte) : (s.receive l).flushCount = s.flushCount := by simp [State.receive]

@[simp] theorem receive_flushPollMs (s : State) (l : List Byte) : (s.receive l).flushPollMs = s.flushPollMs := by simp [State.receive]

@[simp] theorem receive_phase (s : State) (l : List Byte) : (s.receive l).phase = s.phase := by simp [State.receive]

@[simp] theorem receive_sub (s : State) (l : List Byte) : (s.receive l).sub = s.sub := by simp [State.receive]

@[simp] theorem receive_linkOpen (s : State) (l : List Byte) : (s.receive l).linkOpen = s.linkOpen := by simp [State.receive]

@[simp] theorem receive_now (s : State) (l : List Byte) : (s.receive l).now = s.now := by simp [State.receive]

@[simp] theorem receive_resetAsserted (s : State) (l : List Byte) : (s.receive l).resetAsserted = s.resetAsserted := by simp [State.receive]

@[simp] theorem receive_inputs (s : State) (l : List Byte) : (s.receive l).inputs = s.inputs := by simp [State.receive]

@[simp] theorem receive_hostData (s : State) (l : List Byte) : (s.receive l).hostData = s.hostData := by simp [State.receive]

@[simp] theorem receive_calls (s : State) (l : List Byte) : (s.receive l).calls = s.calls := by simp [State.receive]

@[simp] theorem receive_txStream (s : State) (l : List Byte) : (s.receive l).txStream = s.txStream := by simp [State.receive]

@[simp] theorem receive_rxStream (s : State) (l : List Byte) : (s.receive l).rxStream = s.rxStream := by simp [State.receive]

@[simp] theorem receive_epoch (s : State) (l : List Byte) : (s.receive l).epoch = s.epoch := by simp [State.receive]

@[simp] theorem receive_draws (s : State) (l : List Byte) : (s.receive l).draws = s.draws := by simp [State.receive]

@[simp] theorem receive_mem (s : State) (l : List Byte) : (s.receive l).mem = (s.storeRx s.rxCount.toNat l).mem := rfl

/-- Storing a sequence leaves every byte outside it alone. -/
theorem byteAt_storeRx_other (s : State) (i : Nat) (bs : List Byte) {a : Nat}
    (h : a < Config.rxBase + i ∨ Config.rxBase + i + bs.length ≤ a) : (s.storeRx i bs).byteAt a = s.byteAt a := by
  induction bs generalizing s i with
  | nil => rfl
  | cons b bs ih =>
    simp only [List.length_cons] at h
    simp only [State.storeRx]
    rw [ih _ _ (by omega), byteAt_setByte_other _ _ (by omega)]

/-- The bytes stored are the sequence, in order. -/
theorem rx_storeRx (s : State) (i : Nat) (bs : List Byte) {k : Nat} (h : k < bs.length) :
    (s.storeRx i bs).rx (i + k) = bs[k] := by
  induction bs generalizing s i k with
  | nil => simp at h
  | cons b bs ih =>
    cases k with
    | zero =>
      simp only [State.rx, State.storeRx, Nat.add_zero]
      rw [byteAt_storeRx_other _ _ _ (by omega)]
      simp
    | succ k =>
      simp only [List.length_cons] at h
      have := ih (s.setByte (Config.rxBase + i) b) (i + 1) (k := k) (by omega)
      simp only [State.storeRx, List.getElem_cons_succ]
      rw [← this]
      congr 1
      omega

/-- Storing a sequence inside RXBUF keeps the canonical form. -/
theorem storeRx_wf (s : State) (i : Nat) (bs : List Byte) (h : i + bs.length ≤ Config.aduMax)
    (hm : Memory.wf s.mem = true) : Memory.wf (s.storeRx i bs).mem = true := by
  induction bs generalizing s i with
  | nil => exact hm
  | cons b bs ih =>
    simp only [List.length_cons] at h
    refine ih _ _ (by omega) (Memory.wf_write b ?_ hm)
    simp [inRxWindow]
    omega

/-- Assembling an ADU leaves every byte but the slave id and the CRC alone (R172). -/
theorem byteAt_buildAdu_other (s : State) (n : Nat) {a : Nat} (h0 : a ≠ Config.txBase)
    (h1 : a ≠ Config.txBase + (n + 1)) (h2 : a ≠ Config.txBase + (n + 2)) : (s.buildAdu n).byteAt a = s.byteAt a := by
  have h : (s.buildAdu n).byteAt a =
      (((s.setByte Config.txBase s.slave).setByte (Config.txBase + (n + 1)) (crcLo (s.buildAdu n).crc)).setByte
        (Config.txBase + (n + 2)) (crcHi (s.buildAdu n).crc)).byteAt a := rfl
  rw [h, byteAt_setByte_other _ _ h2, byteAt_setByte_other _ _ h1, byteAt_setByte_other _ _ h0]

/-- Assembling an ADU keeps the canonical form. -/
theorem buildAdu_wf (s : State) {n : Nat} (h : n ≤ Config.pduMax) (hm : Memory.wf s.mem = true) :
    Memory.wf (s.buildAdu n).mem = true := by
  have h : n ≤ 253 := h
  refine Memory.wf_write _ ?_ (Memory.wf_write _ ?_ (Memory.wf_write _ ?_ hm)) <;>
    simp [inTxWindow, Config.txBase, Config.aduMax] <;> omega

end Sys2Proof.Machine
end

