-- ==== Sys2Proof/Laws/Invariant.lean ====
section
/-! SUPPORT. What the shared operations do to the invariant: one lemma for completion, one for a phase's entry, one for
verification, one for ADU assembly. -/

namespace Sys2Proof.Machine

/-- The part of the invariant that does not mention the running command. -/
abbrev Settled (s : State) : Prop :=
  (s.txLen = 0 ∨ 4 ≤ s.txLen.toNat) ∧ s.txLen.toNat ≤ 256 ∧ s.txWritten.toNat ≤ s.txLen.toNat ∧
  s.rxNeed.toNat ≤ 256 ∧ s.rxCount.toNat ≤ 256 ∧ FrameOk s ∧ MemoryOk s

/-- A command is running, and its completion fields are clear. -/
abbrev Running (s : State) : Prop :=
  s.busy = true ∧ s.done = false ∧ s.err = .success ∧ s.detail = 0 ∧ s.endPhase = .idle

theorem Inv.settled {s : State} (h : Inv s) : Settled s := by
  obtain ⟨-, -, -, ⟨h1, h2, h3, -, -⟩, ⟨h4, h5, -, -⟩, -, h6, -, h7⟩ := h
  exact ⟨h1, h2, h3, h4, h5, h6, h7⟩

theorem Inv.running {s : State} (h : Inv s) (hb : s.busy = true) : Running s := by
  obtain ⟨-, -, ⟨hs, -⟩, -⟩ := h
  exact ⟨hb, hs hb⟩

theorem Inv.phase_idle {s : State} (h : Inv s) (hb : s.busy = false) : s.phase = .idle := by
  obtain ⟨⟨hp, -, -⟩, -⟩ := h
  by_contra hne
  exact Bool.false_ne_true (hb.symm.trans (hp.mpr hne))

theorem exhausted_eq_true {s : State} : s.exhausted = true ↔ s.budget.toInt ≤ 0 := by simp [State.exhausted]

theorem exhausted_eq_false {s : State} : s.exhausted = false ↔ 0 < s.budget.toInt := by simp [State.exhausted]

/-- A completion with a listed error and detail keeps the invariant. -/
theorem inv_finish {s : State} {k : ErrKind} {d : Byte} (h : Settled s) (hp : (k, d) ∈ statusPairs) :
    Inv (s.finish k d) := by
  obtain ⟨h1, h2, h3, h4, h5, h6, h7⟩ := h
  refine ⟨⟨by simp, by simp, by simp⟩, ⟨by simp, by simp, by simp⟩, ⟨by simp, hp⟩, ⟨h1, h2, h3, by simp, by simp⟩,
    ⟨h4, h5, by simp, by simp⟩, by simp, h6, by simp, h7⟩

/-- The accept of a command that R27 does not name leaves the verified frame as it is. -/
theorem accept_of_notMem {op : Byte} (h : op ∉ receiveOps) (s : State) :
    s.accept op =
      { s with done := false, coll := false, err := .success, detail := 0, endPhase := .idle, lastOp := op } := by
  simp [State.accept, h]

/-- The accept of a command that R27 names leaves no verified frame, and is else that of any command. -/
theorem accept_of_mem {op : Byte} (h : op ∈ receiveOps) (s : State) :
    s.accept op =
      { s.dropFrame with done := false, coll := false, err := .success, detail := 0, endPhase := .idle, lastOp := op } := by
  simp [State.accept, h, State.dropFrame]

/-- A failed accept-time check of an idle block: the whole next state (R233, R235, R27). -/
theorem finish_accept_of_idle {s : State} (h : Idle s) (op : Byte) (k : ErrKind) (d : Byte) :
    (s.accept op).finish k d = (if op ∈ receiveOps then s.dropFrame else s).reported op k d .idle := by
  obtain ⟨hb, hp, hx⟩ := h
  cases s
  simp only at hb hp hx
  subst hb hp hx
  by_cases ho : op ∈ receiveOps
  · rw [accept_of_mem ho, if_pos ho]; rfl
  · rw [accept_of_notMem ho, if_neg ho]; rfl

/-- The start of an accept keeps what does not mention the running command. -/
theorem settled_accept {s : State} (h : Settled s) (op : Byte) : Settled (s.accept op) := by
  obtain ⟨h1, h2, h3, h4, h5, h6, h7⟩ := h
  by_cases ho : op ∈ receiveOps
  · rw [accept_of_mem ho]; exact ⟨h1, h2, h3, h4, h5, by simp [FrameOk], h7⟩
  · rw [accept_of_notMem ho]; exact ⟨h1, h2, h3, h4, h5, h6, h7⟩

theorem enter_of_exhausted {s : State} {p : Phase} (h : s.budget.toInt ≤ 0) :
    s.enter p = (s.atPhase p).finish .timeout 1 := by
  simp [State.enter, State.exhausted, h]

theorem enter_of_budget {s : State} {p : Phase} (h : 0 < s.budget.toInt) :
    s.enter p = (s.atPhase p).beginPhase p := by
  simp [State.enter, State.exhausted, not_le.mpr h]

/-- A phase's entry keeps the invariant, when the command's sequence holds the phase and the lengths are the phase's. -/
theorem inv_enter {s : State} {p : Phase} (hs : Settled s) (hr : Running s) (hv : ReceivingOk s)
    (hp : p ≠ .idle ∧ p ≠ .verify) (hq : SequenceOk { s with phase := p })
    (hsend : p = .send → 4 ≤ s.txLen.toNat) (hflush : p = .flush → s.lastOp = Opcode.frameXact → 4 ≤ s.txLen.toNat)
    (hrest : p = .rxRest → 5 ≤ s.rxNeed.toNat ∧ 3 ≤ s.rxCount.toNat ∧ s.rxCount.toNat < s.rxNeed.toNat) :
    Inv (s.enter p) := by
  obtain ⟨h1, h2, h3, h4, h5, h6, h7⟩ := hs
  obtain ⟨r1, r2, r3, r4, r5⟩ := hr
  rcases Int.lt_or_le 0 s.budget.toInt with hb | hb
  · rw [enter_of_budget hb]
    have hstat : (s.err, s.detail) ∈ statusPairs := by rw [r3, r4]; decide
    cases p with
    | idle => simp at hp
    | verify => simp at hp
    | flush =>
      exact ⟨⟨by simp [State.beginPhase, r1], by simp [State.beginPhase], by simp [State.beginPhase]⟩, hq,
        ⟨fun _ => ⟨r2, r3, r4, r5⟩, hstat⟩,
        ⟨h1, h2, h3, by simp [State.beginPhase], fun h => hflush rfl h.2⟩,
        ⟨h4, h5, by simp [State.beginPhase], by simp [State.beginPhase]⟩, hv, h6, fun _ => hb, h7⟩
    | send =>
      exact ⟨⟨by simp [State.beginPhase, r1], by simp [State.beginPhase], by simp [State.beginPhase]⟩, hq,
        ⟨fun _ => ⟨r2, r3, r4, r5⟩, hstat⟩,
        ⟨h1, h2, Nat.zero_le _, fun _ => lt_of_lt_of_le (show (0 : Nat) < 4 by decide) (hsend rfl), by simp [State.beginPhase]⟩,
        ⟨h4, h5, by simp [State.beginPhase], by simp [State.beginPhase]⟩, hv, h6, fun _ => hb, h7⟩
    | rxHdr =>
      exact ⟨⟨by simp [State.beginPhase, r1], by simp [State.beginPhase], by simp [State.beginPhase]⟩, hq,
        ⟨fun _ => ⟨r2, r3, r4, r5⟩, hstat⟩,
        ⟨h1, h2, h3, by simp [State.beginPhase], by simp [State.beginPhase]⟩,
        ⟨by simp [State.beginPhase, Config.hdrLen], by simp [State.beginPhase],
          fun _ => ⟨by simp [State.beginPhase, Config.hdrLen], by simp [State.beginPhase]⟩, by simp [State.beginPhase]⟩,
        hv, h6, fun _ => hb, h7⟩
    | rxRest =>
      exact ⟨⟨by simp [State.beginPhase, r1], by simp [State.beginPhase], by simp [State.beginPhase]⟩, hq,
        ⟨fun _ => ⟨r2, r3, r4, r5⟩, hstat⟩,
        ⟨h1, h2, h3, by simp [State.beginPhase], by simp [State.beginPhase]⟩,
        ⟨h4, h5, by simp [State.beginPhase], fun _ => hrest rfl⟩, hv, h6, fun _ => hb, h7⟩
  · rw [enter_of_exhausted hb]
    exact inv_finish ⟨h1, h2, h3, h4, h5, h6, h7⟩ (by decide)

/-- Verification of a legal length keeps the invariant, and its success makes the frame valid. -/
theorem inv_verify {s : State} {n : Nat} (hs : Settled s) (hlo : 4 ≤ n) (hhi : n ≤ 256) : Inv (s.verify n) := by
  unfold State.verify
  dsimp only
  split
  · exact inv_finish hs (by decide)
  · split
    · next hm =>
      obtain ⟨h1, h2, h3, h4, h5, -, h7⟩ := hs
      have hl : (BitVec.ofNat 16 (n - 3)).toNat = n - 3 := by simp; omega
      refine inv_finish ⟨h1, h2, h3, h4, h5, ⟨?_, fun _ => ⟨?_, ?_⟩⟩, h7⟩ (by decide)
      · change (BitVec.ofNat 16 (n - 3)).toNat ≤ 253
        omega
      · change 1 ≤ (BitVec.ofNat 16 (n - 3)).toNat
        omega
      · change s.rxCrcMatches ((BitVec.ofNat 16 (n - 3)).toNat + 3) = true
        rw [hl, show n - 3 + 3 = n by omega]
        exact hm
    · exact inv_finish hs (by decide)

/-- Assembling an ADU leaves RXBUF alone (R67, R172). -/
theorem rx_buildAdu (s : State) (n k : Nat) (h : n ≤ Config.pduMax) : (s.buildAdu n).rx k = s.rx k := by
  have h : n ≤ 253 := h
  have hrx : Config.rxBase = 768 := rfl
  have htx : Config.txBase = 256 := rfl
  exact byteAt_buildAdu_other s n (by omega) (by omega) (by omega)

/-- Assembling an ADU of a legal PDU length keeps what does not mention the running command. -/
theorem settled_buildAdu {s : State} {n : Nat} (hs : Settled s) (hlo : 1 ≤ n) (hhi : n ≤ Config.pduMax) :
    Settled (s.buildAdu n) := by
  obtain ⟨-, -, -, h4, h5, ⟨h6, h6'⟩, h7⟩ := hs
  have hn : n ≤ 253 := hhi
  have hl : (s.buildAdu n).txLen.toNat = n + 3 := by
    rw [buildAdu_txLen, BitVec.toNat_ofNat, Nat.mod_eq_of_lt (by omega)]
  have hw : (s.buildAdu n).txWritten.toNat = 0 := by rw [buildAdu_txWritten]; rfl
  have hm : ∀ k, (s.buildAdu n).rxCrcMatches k = s.rxCrcMatches k := fun k => by
    simp only [State.rxCrcMatches, rxBytes_congr (fun j _ _ => rx_buildAdu s n j hhi), rx_buildAdu s n _ hhi]
  refine ⟨.inr (by rw [hl]; omega), by rw [hl]; omega, by rw [hl, hw]; omega, by rw [buildAdu_rxNeed]; exact h4,
    by rw [buildAdu_rxCount]; exact h5, ?_, buildAdu_wf s hhi h7⟩
  rw [FrameOk, buildAdu_rxPduLen, buildAdu_rxValid, hm]
  exact ⟨h6, h6'⟩

end Sys2Proof.Machine
end

