-- ==== Sys2Proof/Laws/PerInstr.lean ====
section
/-! SUPPORT. The per-instruction family TableRow: the bits an instruction is encoded to are those of its row of
spec/opcode_table.json, written here as the table's own match and mask. -/

namespace Sys2Proof.Laws

/-- A row's match and mask. -/
structure Row where
  width : Nat
  mask : Nat
  bits : Nat
  deriving DecidableEq, Repr

/-- A command row: 32 bits. -/
def commandRow (mask bits : Nat) : Row := ⟨32, mask, bits⟩

/-- A response row: the 8 bits of ADU byte 1. -/
def responseRow (mask bits : Nat) : Row := ⟨8, mask, bits⟩

/-- The encoded form fits a row: a command word for a 32-bit row, a header for an 8-bit one, and the masked bits equal. -/
def Row.fits (r : Row) : Code → Prop
  | .command w => r.width = 32 ∧ w &&& BitVec.ofNat 32 r.mask = BitVec.ofNat 32 r.bits
  | .header fc _ => r.width = 8 ∧ fc &&& BitVec.ofNat 8 r.mask = BitVec.ofNat 8 r.bits

/-- Each constructor's row, letter for letter the table's match and mask. -/
def rowOf (i : Instr) : Row :=
  match i with
  | .crcInit => commandRow 0xFFFFFFFF 0x00000001
  | .crcByte _ => commandRow 0xFFFF00FF 0x00000002
  | .crcTxbuf _ => commandRow 0x0000FFFF 0x00000003
  | .crcRxbuf _ => commandRow 0x0000FFFF 0x00000004
  | .budgetLoad => commandRow 0xFFFFFFFF 0x00000010
  | .budgetCharge => commandRow 0xFFFFFFFF 0x00000011
  | .frameBuild _ => commandRow 0x0000FFFF 0x00000020
  | .framePdulen _ _ => commandRow 0xFF0000FF 0x00000021
  | .frameVerify _ => commandRow 0x0000FFFF 0x00000022
  | .frameFlush => commandRow 0xFFFFFFFF 0x00000023
  | .frameSend => commandRow 0xFFFFFFFF 0x00000024
  | .frameRecv => commandRow 0xFFFFFFFF 0x00000025
  | .frameXact _ => commandRow 0x0000FFFF 0x00000026
  | .respExc _ _ => responseRow 0x80 0x80
  | .respBc01 _ => responseRow 0xFF 0x01
  | .respBc02 _ => responseRow 0xFF 0x02
  | .respBc03 _ => responseRow 0xFF 0x03
  | .respBc04 _ => responseRow 0xFF 0x04
  | .respBc0C _ => responseRow 0xFF 0x0C
  | .respBc14 _ => responseRow 0xFF 0x14
  | .respBc17 _ => responseRow 0xFF 0x17
  | .respBc18 _ => responseRow 0xFF 0x18
  | .respFix0F _ => responseRow 0xFF 0x0F
  | .respFix10 _ => responseRow 0xFF 0x10
  | .respFix05 _ => responseRow 0xFF 0x05
  | .respFix06 _ => responseRow 0xFF 0x06
  | .respFix16 _ => responseRow 0xFF 0x16
  | .respFix0B _ => responseRow 0xFF 0x0B
  | .respFix11 _ => responseRow 0xFF 0x11
  | .respFix08 _ => responseRow 0xFF 0x08
  | .respUnsup00 _ => responseRow 0xFF 0x00
  | .respUnsup07 _ => responseRow 0xFF 0x07
  | .respUnsup09 _ => responseRow 0xFF 0x09
  | .respUnsup0A _ => responseRow 0xFF 0x0A
  | .respUnsup0D _ => responseRow 0xFF 0x0D
  | .respUnsup0E _ => responseRow 0xFF 0x0E
  | .respUnsup12 _ => responseRow 0xFF 0x12
  | .respUnsup13 _ => responseRow 0xFF 0x13
  | .respUnsup15 _ => responseRow 0xFF 0x15
  | .respUnsup19 _ => responseRow 0xFF 0x19
  | .respUnsup1A _ => responseRow 0xFF 0x1A
  | .respUnsup1B _ => responseRow 0xFF 0x1B
  | .respUnsup1C _ => responseRow 0xFF 0x1C
  | .respUnsup1D _ => responseRow 0xFF 0x1D
  | .respUnsup1E _ => responseRow 0xFF 0x1E
  | .respUnsup1F _ => responseRow 0xFF 0x1F
  | .respUnsup20 _ => responseRow 0xFF 0x20
  | .respUnsup21 _ => responseRow 0xFF 0x21
  | .respUnsup22 _ => responseRow 0xFF 0x22
  | .respUnsup23 _ => responseRow 0xFF 0x23
  | .respUnsup24 _ => responseRow 0xFF 0x24
  | .respUnsup25 _ => responseRow 0xFF 0x25
  | .respUnsup26 _ => responseRow 0xFF 0x26
  | .respUnsup27 _ => responseRow 0xFF 0x27
  | .respUnsup28 _ => responseRow 0xFF 0x28
  | .respUnsup29 _ => responseRow 0xFF 0x29
  | .respUnsup2A _ => responseRow 0xFF 0x2A
  | .respUnsup2B _ => responseRow 0xFF 0x2B
  | .respUnsup2C _ => responseRow 0xFF 0x2C
  | .respUnsup2D _ => responseRow 0xFF 0x2D
  | .respUnsup2E _ => responseRow 0xFF 0x2E
  | .respUnsup2F _ => responseRow 0xFF 0x2F
  | .respUnsup30 _ => responseRow 0xFF 0x30
  | .respUnsup31 _ => responseRow 0xFF 0x31
  | .respUnsup32 _ => responseRow 0xFF 0x32
  | .respUnsup33 _ => responseRow 0xFF 0x33
  | .respUnsup34 _ => responseRow 0xFF 0x34
  | .respUnsup35 _ => responseRow 0xFF 0x35
  | .respUnsup36 _ => responseRow 0xFF 0x36
  | .respUnsup37 _ => responseRow 0xFF 0x37
  | .respUnsup38 _ => responseRow 0xFF 0x38
  | .respUnsup39 _ => responseRow 0xFF 0x39
  | .respUnsup3A _ => responseRow 0xFF 0x3A
  | .respUnsup3B _ => responseRow 0xFF 0x3B
  | .respUnsup3C _ => responseRow 0xFF 0x3C
  | .respUnsup3D _ => responseRow 0xFF 0x3D
  | .respUnsup3E _ => responseRow 0xFF 0x3E
  | .respUnsup3F _ => responseRow 0xFF 0x3F
  | .respUnsup40 _ => responseRow 0xFF 0x40
  | .respUnsup41 _ => responseRow 0xFF 0x41
  | .respUnsup42 _ => responseRow 0xFF 0x42
  | .respUnsup43 _ => responseRow 0xFF 0x43
  | .respUnsup44 _ => responseRow 0xFF 0x44
  | .respUnsup45 _ => responseRow 0xFF 0x45
  | .respUnsup46 _ => responseRow 0xFF 0x46
  | .respUnsup47 _ => responseRow 0xFF 0x47
  | .respUnsup48 _ => responseRow 0xFF 0x48
  | .respUnsup49 _ => responseRow 0xFF 0x49
  | .respUnsup4A _ => responseRow 0xFF 0x4A
  | .respUnsup4B _ => responseRow 0xFF 0x4B
  | .respUnsup4C _ => responseRow 0xFF 0x4C
  | .respUnsup4D _ => responseRow 0xFF 0x4D
  | .respUnsup4E _ => responseRow 0xFF 0x4E
  | .respUnsup4F _ => responseRow 0xFF 0x4F
  | .respUnsup50 _ => responseRow 0xFF 0x50
  | .respUnsup51 _ => responseRow 0xFF 0x51
  | .respUnsup52 _ => responseRow 0xFF 0x52
  | .respUnsup53 _ => responseRow 0xFF 0x53
  | .respUnsup54 _ => responseRow 0xFF 0x54
  | .respUnsup55 _ => responseRow 0xFF 0x55
  | .respUnsup56 _ => responseRow 0xFF 0x56
  | .respUnsup57 _ => responseRow 0xFF 0x57
  | .respUnsup58 _ => responseRow 0xFF 0x58
  | .respUnsup59 _ => responseRow 0xFF 0x59
  | .respUnsup5A _ => responseRow 0xFF 0x5A
  | .respUnsup5B _ => responseRow 0xFF 0x5B
  | .respUnsup5C _ => responseRow 0xFF 0x5C
  | .respUnsup5D _ => responseRow 0xFF 0x5D
  | .respUnsup5E _ => responseRow 0xFF 0x5E
  | .respUnsup5F _ => responseRow 0xFF 0x5F
  | .respUnsup60 _ => responseRow 0xFF 0x60
  | .respUnsup61 _ => responseRow 0xFF 0x61
  | .respUnsup62 _ => responseRow 0xFF 0x62
  | .respUnsup63 _ => responseRow 0xFF 0x63
  | .respUnsup64 _ => responseRow 0xFF 0x64
  | .respUnsup65 _ => responseRow 0xFF 0x65
  | .respUnsup66 _ => responseRow 0xFF 0x66
  | .respUnsup67 _ => responseRow 0xFF 0x67
  | .respUnsup68 _ => responseRow 0xFF 0x68
  | .respUnsup69 _ => responseRow 0xFF 0x69
  | .respUnsup6A _ => responseRow 0xFF 0x6A
  | .respUnsup6B _ => responseRow 0xFF 0x6B
  | .respUnsup6C _ => responseRow 0xFF 0x6C
  | .respUnsup6D _ => responseRow 0xFF 0x6D
  | .respUnsup6E _ => responseRow 0xFF 0x6E
  | .respUnsup6F _ => responseRow 0xFF 0x6F
  | .respUnsup70 _ => responseRow 0xFF 0x70
  | .respUnsup71 _ => responseRow 0xFF 0x71
  | .respUnsup72 _ => responseRow 0xFF 0x72
  | .respUnsup73 _ => responseRow 0xFF 0x73
  | .respUnsup74 _ => responseRow 0xFF 0x74
  | .respUnsup75 _ => responseRow 0xFF 0x75
  | .respUnsup76 _ => responseRow 0xFF 0x76
  | .respUnsup77 _ => responseRow 0xFF 0x77
  | .respUnsup78 _ => responseRow 0xFF 0x78
  | .respUnsup79 _ => responseRow 0xFF 0x79
  | .respUnsup7A _ => responseRow 0xFF 0x7A
  | .respUnsup7B _ => responseRow 0xFF 0x7B
  | .respUnsup7C _ => responseRow 0xFF 0x7C
  | .respUnsup7D _ => responseRow 0xFF 0x7D
  | .respUnsup7E _ => responseRow 0xFF 0x7E
  | .respUnsup7F _ => responseRow 0xFF 0x7F

/-- Masking the format N word keeps the opcode and the reserved byte. -/
theorem encodeN_mask (op : Byte) (n : Half) :
    (n.setWidth 32 <<< 16 ||| op.setWidth 32) &&& 0x0000FFFF#32 = op.setWidth 32 := by
  ext k hk
  interval_cases k <;> simp

/-- Masking the format B word keeps the opcode and the reserved half. -/
theorem encodeB_mask (op a : Byte) :
    (op.setWidth 32 ||| a.setWidth 32 <<< 8) &&& 0xFFFF00FF#32 = op.setWidth 32 := by
  ext k hk
  interval_cases k <;> simp

/-- Masking the format P word keeps the opcode and the reserved byte. -/
theorem encodeP_mask (op a b : Byte) :
    (b.setWidth 32 <<< 16 ||| a.setWidth 32 <<< 8 ||| op.setWidth 32) &&& 0xFF0000FF#32 = op.setWidth 32 := by
  ext k hk
  interval_cases k <;> simp

/-- Bit 7 of an exception response's function code is 1. -/
theorem exception_mask (low : BitVec 7) : (0x80#8 ||| low.setWidth 8) &&& 0x80#8 = 0x80#8 := by
  ext k hk
  interval_cases k <;> simp

/-- A response row's mask keeps the whole function code. -/
theorem response_mask (fc : Byte) : fc &&& 0xFF#8 = fc := by
  ext k hk
  interval_cases k <;> simp

namespace TableRow

/-- What the family says of an instruction. -/
def Statement (i : Instr) : Prop := (rowOf i).fits (encode i)

theorem crcInit : Statement .crcInit := ⟨rfl, rfl⟩
theorem crcByte (b : Byte) : Statement (.crcByte b) := ⟨rfl, encodeB_mask Opcode.crcByte b⟩
theorem crcTxbuf (n : Half) : Statement (.crcTxbuf n) := ⟨rfl, encodeN_mask Opcode.crcTxbuf n⟩
theorem crcRxbuf (n : Half) : Statement (.crcRxbuf n) := ⟨rfl, encodeN_mask Opcode.crcRxbuf n⟩
theorem budgetLoad : Statement .budgetLoad := ⟨rfl, rfl⟩
theorem budgetCharge : Statement .budgetCharge := ⟨rfl, rfl⟩
theorem frameBuild (n : Half) : Statement (.frameBuild n) := ⟨rfl, encodeN_mask Opcode.frameBuild n⟩
theorem framePdulen (fc bc : Byte) : Statement (.framePdulen fc bc) := ⟨rfl, encodeP_mask Opcode.framePdulen fc bc⟩
theorem frameVerify (n : Half) : Statement (.frameVerify n) := ⟨rfl, encodeN_mask Opcode.frameVerify n⟩
theorem frameFlush : Statement .frameFlush := ⟨rfl, rfl⟩
theorem frameSend : Statement .frameSend := ⟨rfl, rfl⟩
theorem frameRecv : Statement .frameRecv := ⟨rfl, rfl⟩
theorem frameXact (n : Half) : Statement (.frameXact n) := ⟨rfl, encodeN_mask Opcode.frameXact n⟩
theorem respExc (low : BitVec 7) (b2 : Byte) : Statement (.respExc low b2) := ⟨rfl, exception_mask low⟩
theorem respBc01 (b : Byte) : Statement (.respBc01 b) := ⟨rfl, response_mask 0x01⟩
theorem respBc02 (b : Byte) : Statement (.respBc02 b) := ⟨rfl, response_mask 0x02⟩
theorem respBc03 (b : Byte) : Statement (.respBc03 b) := ⟨rfl, response_mask 0x03⟩
theorem respBc04 (b : Byte) : Statement (.respBc04 b) := ⟨rfl, response_mask 0x04⟩
theorem respBc0C (b : Byte) : Statement (.respBc0C b) := ⟨rfl, response_mask 0x0C⟩
theorem respBc14 (b : Byte) : Statement (.respBc14 b) := ⟨rfl, response_mask 0x14⟩
theorem respBc17 (b : Byte) : Statement (.respBc17 b) := ⟨rfl, response_mask 0x17⟩
theorem respBc18 (b : Byte) : Statement (.respBc18 b) := ⟨rfl, response_mask 0x18⟩
theorem respFix0F (b : Byte) : Statement (.respFix0F b) := ⟨rfl, response_mask 0x0F⟩
theorem respFix10 (b : Byte) : Statement (.respFix10 b) := ⟨rfl, response_mask 0x10⟩
theorem respFix05 (b : Byte) : Statement (.respFix05 b) := ⟨rfl, response_mask 0x05⟩
theorem respFix06 (b : Byte) : Statement (.respFix06 b) := ⟨rfl, response_mask 0x06⟩
theorem respFix16 (b : Byte) : Statement (.respFix16 b) := ⟨rfl, response_mask 0x16⟩
theorem respFix0B (b : Byte) : Statement (.respFix0B b) := ⟨rfl, response_mask 0x0B⟩
theorem respFix11 (b : Byte) : Statement (.respFix11 b) := ⟨rfl, response_mask 0x11⟩
theorem respFix08 (b : Byte) : Statement (.respFix08 b) := ⟨rfl, response_mask 0x08⟩
theorem respUnsup00 (b : Byte) : Statement (.respUnsup00 b) := ⟨rfl, response_mask 0x00⟩
theorem respUnsup07 (b : Byte) : Statement (.respUnsup07 b) := ⟨rfl, response_mask 0x07⟩
theorem respUnsup09 (b : Byte) : Statement (.respUnsup09 b) := ⟨rfl, response_mask 0x09⟩
theorem respUnsup0A (b : Byte) : Statement (.respUnsup0A b) := ⟨rfl, response_mask 0x0A⟩
theorem respUnsup0D (b : Byte) : Statement (.respUnsup0D b) := ⟨rfl, response_mask 0x0D⟩
theorem respUnsup0E (b : Byte) : Statement (.respUnsup0E b) := ⟨rfl, response_mask 0x0E⟩
theorem respUnsup12 (b : Byte) : Statement (.respUnsup12 b) := ⟨rfl, response_mask 0x12⟩
theorem respUnsup13 (b : Byte) : Statement (.respUnsup13 b) := ⟨rfl, response_mask 0x13⟩
theorem respUnsup15 (b : Byte) : Statement (.respUnsup15 b) := ⟨rfl, response_mask 0x15⟩
theorem respUnsup19 (b : Byte) : Statement (.respUnsup19 b) := ⟨rfl, response_mask 0x19⟩
theorem respUnsup1A (b : Byte) : Statement (.respUnsup1A b) := ⟨rfl, response_mask 0x1A⟩
theorem respUnsup1B (b : Byte) : Statement (.respUnsup1B b) := ⟨rfl, response_mask 0x1B⟩
theorem respUnsup1C (b : Byte) : Statement (.respUnsup1C b) := ⟨rfl, response_mask 0x1C⟩
theorem respUnsup1D (b : Byte) : Statement (.respUnsup1D b) := ⟨rfl, response_mask 0x1D⟩
theorem respUnsup1E (b : Byte) : Statement (.respUnsup1E b) := ⟨rfl, response_mask 0x1E⟩
theorem respUnsup1F (b : Byte) : Statement (.respUnsup1F b) := ⟨rfl, response_mask 0x1F⟩
theorem respUnsup20 (b : Byte) : Statement (.respUnsup20 b) := ⟨rfl, response_mask 0x20⟩
theorem respUnsup21 (b : Byte) : Statement (.respUnsup21 b) := ⟨rfl, response_mask 0x21⟩
theorem respUnsup22 (b : Byte) : Statement (.respUnsup22 b) := ⟨rfl, response_mask 0x22⟩
theorem respUnsup23 (b : Byte) : Statement (.respUnsup23 b) := ⟨rfl, response_mask 0x23⟩
theorem respUnsup24 (b : Byte) : Statement (.respUnsup24 b) := ⟨rfl, response_mask 0x24⟩
theorem respUnsup25 (b : Byte) : Statement (.respUnsup25 b) := ⟨rfl, response_mask 0x25⟩
theorem respUnsup26 (b : Byte) : Statement (.respUnsup26 b) := ⟨rfl, response_mask 0x26⟩
theorem respUnsup27 (b : Byte) : Statement (.respUnsup27 b) := ⟨rfl, response_mask 0x27⟩
theorem respUnsup28 (b : Byte) : Statement (.respUnsup28 b) := ⟨rfl, response_mask 0x28⟩
theorem respUnsup29 (b : Byte) : Statement (.respUnsup29 b) := ⟨rfl, response_mask 0x29⟩
theorem respUnsup2A (b : Byte) : Statement (.respUnsup2A b) := ⟨rfl, response_mask 0x2A⟩
theorem respUnsup2B (b : Byte) : Statement (.respUnsup2B b) := ⟨rfl, response_mask 0x2B⟩
theorem respUnsup2C (b : Byte) : Statement (.respUnsup2C b) := ⟨rfl, response_mask 0x2C⟩
theorem respUnsup2D (b : Byte) : Statement (.respUnsup2D b) := ⟨rfl, response_mask 0x2D⟩
theorem respUnsup2E (b : Byte) : Statement (.respUnsup2E b) := ⟨rfl, response_mask 0x2E⟩
theorem respUnsup2F (b : Byte) : Statement (.respUnsup2F b) := ⟨rfl, response_mask 0x2F⟩
theorem respUnsup30 (b : Byte) : Statement (.respUnsup30 b) := ⟨rfl, response_mask 0x30⟩
theorem respUnsup31 (b : Byte) : Statement (.respUnsup31 b) := ⟨rfl, response_mask 0x31⟩
theorem respUnsup32 (b : Byte) : Statement (.respUnsup32 b) := ⟨rfl, response_mask 0x32⟩
theorem respUnsup33 (b : Byte) : Statement (.respUnsup33 b) := ⟨rfl, response_mask 0x33⟩
theorem respUnsup34 (b : Byte) : Statement (.respUnsup34 b) := ⟨rfl, response_mask 0x34⟩
theorem respUnsup35 (b : Byte) : Statement (.respUnsup35 b) := ⟨rfl, response_mask 0x35⟩
theorem respUnsup36 (b : Byte) : Statement (.respUnsup36 b) := ⟨rfl, response_mask 0x36⟩
theorem respUnsup37 (b : Byte) : Statement (.respUnsup37 b) := ⟨rfl, response_mask 0x37⟩
theorem respUnsup38 (b : Byte) : Statement (.respUnsup38 b) := ⟨rfl, response_mask 0x38⟩
theorem respUnsup39 (b : Byte) : Statement (.respUnsup39 b) := ⟨rfl, response_mask 0x39⟩
theorem respUnsup3A (b : Byte) : Statement (.respUnsup3A b) := ⟨rfl, response_mask 0x3A⟩
theorem respUnsup3B (b : Byte) : Statement (.respUnsup3B b) := ⟨rfl, response_mask 0x3B⟩
theorem respUnsup3C (b : Byte) : Statement (.respUnsup3C b) := ⟨rfl, response_mask 0x3C⟩
theorem respUnsup3D (b : Byte) : Statement (.respUnsup3D b) := ⟨rfl, response_mask 0x3D⟩
theorem respUnsup3E (b : Byte) : Statement (.respUnsup3E b) := ⟨rfl, response_mask 0x3E⟩
theorem respUnsup3F (b : Byte) : Statement (.respUnsup3F b) := ⟨rfl, response_mask 0x3F⟩
theorem respUnsup40 (b : Byte) : Statement (.respUnsup40 b) := ⟨rfl, response_mask 0x40⟩
theorem respUnsup41 (b : Byte) : Statement (.respUnsup41 b) := ⟨rfl, response_mask 0x41⟩
theorem respUnsup42 (b : Byte) : Statement (.respUnsup42 b) := ⟨rfl, response_mask 0x42⟩
theorem respUnsup43 (b : Byte) : Statement (.respUnsup43 b) := ⟨rfl, response_mask 0x43⟩
theorem respUnsup44 (b : Byte) : Statement (.respUnsup44 b) := ⟨rfl, response_mask 0x44⟩
theorem respUnsup45 (b : Byte) : Statement (.respUnsup45 b) := ⟨rfl, response_mask 0x45⟩
theorem respUnsup46 (b : Byte) : Statement (.respUnsup46 b) := ⟨rfl, response_mask 0x46⟩
theorem respUnsup47 (b : Byte) : Statement (.respUnsup47 b) := ⟨rfl, response_mask 0x47⟩
theorem respUnsup48 (b : Byte) : Statement (.respUnsup48 b) := ⟨rfl, response_mask 0x48⟩
theorem respUnsup49 (b : Byte) : Statement (.respUnsup49 b) := ⟨rfl, response_mask 0x49⟩
theorem respUnsup4A (b : Byte) : Statement (.respUnsup4A b) := ⟨rfl, response_mask 0x4A⟩
theorem respUnsup4B (b : Byte) : Statement (.respUnsup4B b) := ⟨rfl, response_mask 0x4B⟩
theorem respUnsup4C (b : Byte) : Statement (.respUnsup4C b) := ⟨rfl, response_mask 0x4C⟩
theorem respUnsup4D (b : Byte) : Statement (.respUnsup4D b) := ⟨rfl, response_mask 0x4D⟩
theorem respUnsup4E (b : Byte) : Statement (.respUnsup4E b) := ⟨rfl, response_mask 0x4E⟩
theorem respUnsup4F (b : Byte) : Statement (.respUnsup4F b) := ⟨rfl, response_mask 0x4F⟩
theorem respUnsup50 (b : Byte) : Statement (.respUnsup50 b) := ⟨rfl, response_mask 0x50⟩
theorem respUnsup51 (b : Byte) : Statement (.respUnsup51 b) := ⟨rfl, response_mask 0x51⟩
theorem respUnsup52 (b : Byte) : Statement (.respUnsup52 b) := ⟨rfl, response_mask 0x52⟩
theorem respUnsup53 (b : Byte) : Statement (.respUnsup53 b) := ⟨rfl, response_mask 0x53⟩
theorem respUnsup54 (b : Byte) : Statement (.respUnsup54 b) := ⟨rfl, response_mask 0x54⟩
theorem respUnsup55 (b : Byte) : Statement (.respUnsup55 b) := ⟨rfl, response_mask 0x55⟩
theorem respUnsup56 (b : Byte) : Statement (.respUnsup56 b) := ⟨rfl, response_mask 0x56⟩
theorem respUnsup57 (b : Byte) : Statement (.respUnsup57 b) := ⟨rfl, response_mask 0x57⟩
theorem respUnsup58 (b : Byte) : Statement (.respUnsup58 b) := ⟨rfl, response_mask 0x58⟩
theorem respUnsup59 (b : Byte) : Statement (.respUnsup59 b) := ⟨rfl, response_mask 0x59⟩
theorem respUnsup5A (b : Byte) : Statement (.respUnsup5A b) := ⟨rfl, response_mask 0x5A⟩
theorem respUnsup5B (b : Byte) : Statement (.respUnsup5B b) := ⟨rfl, response_mask 0x5B⟩
theorem respUnsup5C (b : Byte) : Statement (.respUnsup5C b) := ⟨rfl, response_mask 0x5C⟩
theorem respUnsup5D (b : Byte) : Statement (.respUnsup5D b) := ⟨rfl, response_mask 0x5D⟩
theorem respUnsup5E (b : Byte) : Statement (.respUnsup5E b) := ⟨rfl, response_mask 0x5E⟩
theorem respUnsup5F (b : Byte) : Statement (.respUnsup5F b) := ⟨rfl, response_mask 0x5F⟩
theorem respUnsup60 (b : Byte) : Statement (.respUnsup60 b) := ⟨rfl, response_mask 0x60⟩
theorem respUnsup61 (b : Byte) : Statement (.respUnsup61 b) := ⟨rfl, response_mask 0x61⟩
theorem respUnsup62 (b : Byte) : Statement (.respUnsup62 b) := ⟨rfl, response_mask 0x62⟩
theorem respUnsup63 (b : Byte) : Statement (.respUnsup63 b) := ⟨rfl, response_mask 0x63⟩
theorem respUnsup64 (b : Byte) : Statement (.respUnsup64 b) := ⟨rfl, response_mask 0x64⟩
theorem respUnsup65 (b : Byte) : Statement (.respUnsup65 b) := ⟨rfl, response_mask 0x65⟩
theorem respUnsup66 (b : Byte) : Statement (.respUnsup66 b) := ⟨rfl, response_mask 0x66⟩
theorem respUnsup67 (b : Byte) : Statement (.respUnsup67 b) := ⟨rfl, response_mask 0x67⟩
theorem respUnsup68 (b : Byte) : Statement (.respUnsup68 b) := ⟨rfl, response_mask 0x68⟩
theorem respUnsup69 (b : Byte) : Statement (.respUnsup69 b) := ⟨rfl, response_mask 0x69⟩
theorem respUnsup6A (b : Byte) : Statement (.respUnsup6A b) := ⟨rfl, response_mask 0x6A⟩
theorem respUnsup6B (b : Byte) : Statement (.respUnsup6B b) := ⟨rfl, response_mask 0x6B⟩
theorem respUnsup6C (b : Byte) : Statement (.respUnsup6C b) := ⟨rfl, response_mask 0x6C⟩
theorem respUnsup6D (b : Byte) : Statement (.respUnsup6D b) := ⟨rfl, response_mask 0x6D⟩
theorem respUnsup6E (b : Byte) : Statement (.respUnsup6E b) := ⟨rfl, response_mask 0x6E⟩
theorem respUnsup6F (b : Byte) : Statement (.respUnsup6F b) := ⟨rfl, response_mask 0x6F⟩
theorem respUnsup70 (b : Byte) : Statement (.respUnsup70 b) := ⟨rfl, response_mask 0x70⟩
theorem respUnsup71 (b : Byte) : Statement (.respUnsup71 b) := ⟨rfl, response_mask 0x71⟩
theorem respUnsup72 (b : Byte) : Statement (.respUnsup72 b) := ⟨rfl, response_mask 0x72⟩
theorem respUnsup73 (b : Byte) : Statement (.respUnsup73 b) := ⟨rfl, response_mask 0x73⟩
theorem respUnsup74 (b : Byte) : Statement (.respUnsup74 b) := ⟨rfl, response_mask 0x74⟩
theorem respUnsup75 (b : Byte) : Statement (.respUnsup75 b) := ⟨rfl, response_mask 0x75⟩
theorem respUnsup76 (b : Byte) : Statement (.respUnsup76 b) := ⟨rfl, response_mask 0x76⟩
theorem respUnsup77 (b : Byte) : Statement (.respUnsup77 b) := ⟨rfl, response_mask 0x77⟩
theorem respUnsup78 (b : Byte) : Statement (.respUnsup78 b) := ⟨rfl, response_mask 0x78⟩
theorem respUnsup79 (b : Byte) : Statement (.respUnsup79 b) := ⟨rfl, response_mask 0x79⟩
theorem respUnsup7A (b : Byte) : Statement (.respUnsup7A b) := ⟨rfl, response_mask 0x7A⟩
theorem respUnsup7B (b : Byte) : Statement (.respUnsup7B b) := ⟨rfl, response_mask 0x7B⟩
theorem respUnsup7C (b : Byte) : Statement (.respUnsup7C b) := ⟨rfl, response_mask 0x7C⟩
theorem respUnsup7D (b : Byte) : Statement (.respUnsup7D b) := ⟨rfl, response_mask 0x7D⟩
theorem respUnsup7E (b : Byte) : Statement (.respUnsup7E b) := ⟨rfl, response_mask 0x7E⟩
theorem respUnsup7F (b : Byte) : Statement (.respUnsup7F b) := ⟨rfl, response_mask 0x7F⟩

end TableRow

end Sys2Proof.Laws
end

