-- ==== Sys2Proof/Laws/Step.lean ====
section
/-! SUPPORT. What a charge, an operand check, a phase's entry, a verification, a response header and one step do: the lemmas
to cite instead of unfolding them. -/

namespace Sys2Proof.Machine

/-! ### The budget -/

/-- One charge, as an exact integer (R151, R152). -/
theorem toInt_charge (s : State) : s.charge.budget.toInt = s.budgetAfter s.now := by
  have hclamp : ∀ v : Int, clamp32 v = max (-(2 ^ 31)) v := by
    intro v; unfold clamp32; split <;> omega
  have helapsed : ((s.now - s.mark).toNat : Int) = ((s.now.toNat : Int) - s.mark.toNat) % 2 ^ 32 := by
    have := s.now.isLt
    have := s.mark.isLt
    rw [BitVec.toNat_sub]; omega
  simp only [State.charge, State.budgetAfter, hclamp, State.elapsed, helapsed]
  have h0 : 0 ≤ ((s.now.toNat : Int) - s.mark.toNat) % 2 ^ 32 := Int.emod_nonneg _ (by decide)
  have hlt := BitVec.toInt_lt (x := s.budget)
  generalize ((s.now.toNat : Int) - s.mark.toNat) % 2 ^ 32 = m at *
  rw [BitVec.toInt_ofInt]
  exact Int.bmod_eq_of_le (by simp) (by simp at *; omega)

/-- A charge never raises the budget. -/
theorem budgetAfter_le (s : State) (t : Word) : s.budgetAfter t ≤ s.budget.toInt := by
  have h0 : 0 ≤ ((t.toNat : Int) - s.mark.toNat) % 2 ^ 32 := Int.emod_nonneg _ (by decide)
  have hge := BitVec.le_toInt (x := s.budget)
  simp only [State.budgetAfter]; omega

/-- A transport call makes one charge, at the time of its step (R158). -/
theorem toInt_call (s : State) (c : Call) : (s.call c).budget.toInt = s.budgetAfter s.now := toInt_charge _

/-! ### Operand checks -/

theorem withLength_of_legal {lo hi : Nat} {n : Half} (h : lo ≤ n.toNat ∧ n.toNat ≤ hi) (s : State)
    (body : Nat → State → State) : withLength lo hi n s body = body n.toNat s := if_pos h

theorem withLength_of_illegal {lo hi : Nat} {n : Half} (h : ¬(lo ≤ n.toNat ∧ n.toNat ≤ hi)) (s : State)
    (body : Nat → State → State) : withLength lo hi n s body = s.finish .invalidOperation 3 := if_neg h

theorem withAdu_of_built {s : State} (h : s.txLen ≠ 0) (body : State → State) : withAdu s body = body s := if_neg h

theorem withAdu_of_none {s : State} (h : s.txLen = 0) (body : State → State) : withAdu s body = s.finish .invalidOperation 5 := if_pos h

theorem withLink_of_open {s : State} (h : s.linkOpen = true) (body : State → State) : withLink s body = body s :=
  if_pos h

theorem withLink_of_closed {s : State} (h : s.linkOpen = false) (body : State → State) :
    withLink s body = s.finish .invalidOperation 4 := if_neg (by simp [h])

/-! ### Response headers -/

/-- Every response header runs the one shared end of the header, with its inferred length (R183, R173). -/
theorem exec_decodeHeader (fc bc : Byte) (s : State) :
    exec (decodeHeader fc bc) s = .next (headerEnd (findPduLength fc bc) s) := by
  by_cases hm : fc.msb = true
  · simp [decodeHeader, findPduLength, respClass, hm, exec, execRespExc]
  · have hlt : fc.toNat < 128 := by
      have := BitVec.msb_eq_decide fc
      simp only [Bool.not_eq_true] at hm
      rw [hm] at this
      simpa using this
    obtain ⟨v, hv, rfl⟩ : ∃ v, v < 128 ∧ fc = BitVec.ofNat 8 v := ⟨fc.toNat, hlt, by simp⟩
    clear hm hlt
    interval_cases v <;> rfl

/-- An inferred length is 2 to 253 (R91, R173). -/
theorem findPduLength_range {fc bc : Byte} {l : Nat} (h : findPduLength fc bc = .ok l) : 2 ≤ l ∧ l ≤ 253 := by
  unfold findPduLength at h
  split at h
  · simp at h; omega
  · unfold byteCountLength at h
    dsimp only at h
    split at h
    · simp at h
      have : Config.pduMax = 253 := rfl
      omega
    · simp at h
  · next hc =>
    simp at h
    unfold respClass at hc
    split at hc
    · simp at hc
    split at hc
    · simp at hc
    split at hc
    · simp at hc; omega
    split at hc
    · simp at hc; omega
    simp at hc
  · simp at h

/-- No meaning faults or refuses. -/
theorem exec_answers_next (i : Instr) (s : State) : ∃ t, exec i s = .next t := by
  cases i
  case framePdulen fc bc => simp only [exec, execFramePdulen]; cases findPduLength fc bc <;> exact ⟨_, rfl⟩
  all_goals exact ⟨_, rfl⟩

/-! ### Phases -/

/-- What the entry of a phase leaves alone, and where it leaves PHASE (R176). -/
theorem enter_frame (s : State) (p : Phase) :
    (s.enter p).calls = s.calls ∧ (s.enter p).budget = s.budget ∧ (s.enter p).mark = s.mark ∧
      (s.enter p).epoch = s.epoch ∧ (s.enter p).rxValid = s.rxValid ∧ (s.enter p).rxPduLen = s.rxPduLen ∧
      (s.enter p).mem = s.mem ∧ (s.enter p).lastOp = s.lastOp ∧ (s.enter p).txStream = s.txStream ∧
      (s.enter p).rxStream = s.rxStream ∧ ((s.enter p).phase = .idle ∨ (s.enter p).phase = p) := by
  rcases Int.lt_or_le 0 s.budget.toInt with h | h
  · rw [enter_of_budget h]
    cases p <;> exact ⟨rfl, rfl, rfl, rfl, rfl, rfl, rfl, rfl, rfl, rfl, .inr rfl⟩
  · rw [enter_of_exhausted h]
    exact ⟨rfl, rfl, rfl, rfl, rfl, rfl, rfl, rfl, rfl, rfl, .inl rfl⟩

/-- Verification ends the command in VERIFY and leaves these fields alone (R180). -/
theorem verify_frame (s : State) (n : Nat) :
    (s.verify n).busy = false ∧ (s.verify n).done = true ∧ (s.verify n).phase = .idle ∧ (s.verify n).sub = .poll ∧
      (s.verify n).endPhase = .verify ∧ (s.verify n).lastOp = s.lastOp ∧ (s.verify n).coll = s.coll ∧
      (s.verify n).calls = s.calls ∧ (s.verify n).mark = s.mark ∧ (s.verify n).budget = s.budget ∧
      (s.verify n).mem = s.mem ∧ (s.verify n).epoch = s.epoch ∧ (s.verify n).slave = s.slave := by
  unfold State.verify
  dsimp only
  split_ifs <;> exact ⟨rfl, rfl, rfl, rfl, rfl, rfl, rfl, rfl, rfl, rfl, rfl, rfl, rfl⟩

/-- The one enabled round of an open link, by PHASE (R188). -/
theorem blockRound_of_open {s : State} (h : s.linkOpen = true) (a : Option Answer) :
    (s.phase = .flush → blockRound a s = flushRound a s) ∧ (s.phase = .send → blockRound a s = sendRound a s) ∧
      (s.phase = .rxHdr ∨ s.phase = .rxRest → blockRound a s = recvRound a s) := by
  refine ⟨fun hp => ?_, fun hp => ?_, ?_⟩
  · simp only [blockRound, hp, h]; rfl
  · simp only [blockRound, hp, h]; rfl
  · rintro (hp | hp) <;> (simp only [blockRound, hp, h]; rfl)

/-- On a closed link every round of a running command ends it (R76). -/
theorem blockRound_of_closed {s : State} (hi : Inv s) (hb : s.busy = true) (h : s.linkOpen = false) (a : Option Answer) :
    blockRound a s = .next (s.finish .linkBroken 3) := by
  have h1 := hi.1.1.1 hb
  have h2 := hi.1.2.1
  unfold blockRound
  cases hp : s.phase <;> simp_all

/-! ### The window (R64) -/

/-- BLOCK_BASE plus an offset, as a number: the window does not reach past the top of the address space. -/
theorem toNat_windowAddress (off : BitVec 11) :
    (Config.blockBase + off.setWidth 32).toNat = Config.blockPage.toNat * 2 ^ 11 + off.toNat := by
  have hp := Config.blockPage.isLt
  have ho := off.isLt
  simp only [Config.blockBase, BitVec.toNat_add, BitVec.toNat_shiftLeft, BitVec.toNat_setWidth, Nat.shiftLeft_eq]
  omega

/-- An address that is an offset above BLOCK_BASE, as a number, is that offset of the window (R64). -/
theorem windowOffset_of_toNat {a : Word} {off : BitVec 11} (h : a.toNat = Config.blockPage.toNat * 2 ^ 11 + off.toNat) :
    windowOffset a = some off := by
  have hp := Config.blockPage.isLt
  have ho := off.isLt
  have h1 : a.extractLsb' 11 21 = Config.blockPage := by
    apply BitVec.eq_of_toNat_eq
    rw [BitVec.extractLsb'_toNat, h, Nat.shiftRight_eq_div_pow]; omega
  have h2 : a.extractLsb' 0 11 = off := by
    apply BitVec.eq_of_toNat_eq
    rw [BitVec.extractLsb'_toNat, h, Nat.shiftRight_eq_div_pow]; omega
  rw [windowOffset, if_pos h1, h2]

/-- BLOCK_BASE plus an offset is that offset of the window (R64). -/
theorem windowOffset_blockBase_add (off : BitVec 11) : windowOffset (Config.blockBase + off.setWidth 32) = some off :=
  windowOffset_of_toNat (toNat_windowAddress off)
/-! ### One step -/

/-- A step that takes a host access. -/
theorem step_host {s : State} {off : BitVec 11} {x : Access} {now : Word} {rest : List Input}
    (h : s.inputs = .host off x now :: rest) :
    step s = if s.resetAsserted then hostAccessInReset off x (s.took rest now) else hostAccess off x (s.took rest now) := by
  simp only [step, h, takeInput]; rfl

/-- A step that takes a host access at an absolute address (R64). -/
theorem step_bus {s : State} {addr : Word} {off : BitVec 11} {x : Access} {now : Word} {rest : List Input}
    (h : s.inputs = .bus addr x now :: rest) (hw : windowOffset addr = some off) :
    step s = if s.resetAsserted then hostAccessInReset off x (s.took rest now) else hostAccess off x (s.took rest now) := by
  simp only [step, h, takeInput, hw]; rfl

/-- A step that takes a LINK_OPEN change (R44, R239). -/
theorem step_link {s : State} {isOpen : Bool} {rest : List Input} (hr : s.resetAsserted = false)
    (h : s.inputs = .link isOpen :: rest) : step s = .next { s with inputs := rest, linkOpen := isOpen } := by
  simp only [step, h, takeInput, setInputs_resetAsserted, hr]; rfl

/-- A step that takes a RESET input: it resets while RESET is asserted and in the step that releases it (R260). -/
theorem step_reset {s : State} {b : Bool} {rest : List Input} (h : s.inputs = .reset b :: rest) :
    step s = if b || s.resetAsserted then .next { (s.setInputs rest).resetBlock with resetAsserted := b }
      else .next (s.setInputs rest) := by
  simp only [step, h, takeInput]; rfl

/-- A step that takes a round of a running command. -/
theorem step_round {s : State} {a : Answer} {now : Word} {rest : List Input} (hb : s.busy = true)
    (hr : s.resetAsserted = false) (h : s.inputs = .round a now :: rest) :
    step s = blockRound (some a) (s.took rest now) := by
  have : step s = if s.resetAsserted then .next (s.took rest now).resetBlock
      else blockStep (some a) (s.took rest now) := by simp only [step, h, takeInput]; rfl
  rw [this, if_neg (by simp [hr]), blockStep, if_pos (by exact hb)]

/-- A step with no input listed, while a command runs: its round, with free answers at a free time. -/
theorem step_quiet_busy {s : State} (hb : s.busy = true) (hr : s.resetAsserted = false) (h : s.inputs = []) :
    step s = blockRound none (s.setNow (Config.freeNow s.draws)) := by
  simp only [step, h, quietStep, hb, hr]; rfl

/-- A step with no input listed leaves an idle block as it is. -/
theorem step_quiet_idle {s : State} (hb : s.busy = false) (hr : s.resetAsserted = false) (h : s.inputs = []) :
    step s = .next s := by
  simp only [step, h, quietStep, hb, hr]; rfl

end Sys2Proof.Machine
end

