-- ==== Sys2Proof/Machine/Assembler.lean ====
section
/-! DEFINITION. The text of commands and of host programs (spec/30_encoding.md R116 to R118): one line at a time, to the command
word or to the line of Machine/HostPort.lean it stands for. It runs before the machine does; no step uses it. -/

namespace Sys2Proof.Machine

/-- The value of a decimal or hexadecimal digit. -/
def digitValue (c : Char) : Option Nat :=
  if '0' ≤ c ∧ c ≤ '9' then some (c.toNat - '0'.toNat)
  else if 'a' ≤ c ∧ c ≤ 'f' then some (c.toNat - 'a'.toNat + 10)
  else if 'A' ≤ c ∧ c ≤ 'F' then some (c.toNat - 'A'.toNat + 10)
  else none

/-- The number that digits of a base continue. -/
def digits (base acc : Nat) : List Char → Option Nat
  | [] => some acc
  | c :: cs =>
    match digitValue c with
    | some d => if d < base then digits base (base * acc + d) cs else none
    | none => none

/-- A number in decimal or `0x` hexadecimal (R116), of at least one digit. -/
def number : List Char → Option Nat
  | [] => none
  | '0' :: 'x' :: c :: cs => digits 16 0 (c :: cs)
  | c :: cs => digits 10 0 (c :: cs)

/-- The text without the blanks at its ends. -/
def trimBlanks (l : List Char) : List Char :=
  ((l.dropWhile fun c => c = ' ').reverse.dropWhile fun c => c = ' ').reverse

/-- The fields between commas. -/
def commaFields : List Char → List (List Char)
  | [] => [[]]
  | c :: cs =>
    match commaFields cs with
    | [] => [[c]]
    | f :: fs => if c = ',' then [] :: f :: fs else (c :: f) :: fs

/-- The numbers of the fields, none when one of them is no number. -/
def numbers : List (List Char) → Option (List Nat)
  | [] => some []
  | f :: fs =>
    match number (trimBlanks f), numbers fs with
    | some n, some ns => some (n :: ns)
    | _, _ => none

/-- The mnemonic of a line, and its operands, separated by commas (R116). -/
def lineParts (text : String) : Option (String × List Nat) :=
  let line := trimBlanks text.toList
  let word := line.takeWhile fun c => !decide (c = ' ')
  let rest := trimBlanks (line.drop word.length)
  let operands := if rest = [] then some [] else numbers (commaFields rest)
  operands.map fun ns => (String.ofList word, ns)

/-- A command without operands. -/
def noOperand (i : Instr) : List Nat → Option Instr
  | [] => some i
  | _ :: _ => none

/-- A command with a byte operand. -/
def byteOperand (mk : Byte → Instr) : List Nat → Option Instr
  | [b] => if b < 2 ^ 8 then some (mk (BitVec.ofNat 8 b)) else none
  | _ => none

/-- A command with a 16-bit length operand. -/
def lengthOperand (mk : Half → Instr) : List Nat → Option Instr
  | [n] => if n < 2 ^ 16 then some (mk (BitVec.ofNat 16 n)) else none
  | _ => none

/-- A command with two byte operands. -/
def pairOperand (mk : Byte → Byte → Instr) : List Nat → Option Instr
  | [a, b] => if a < 2 ^ 8 ∧ b < 2 ^ 8 then some (mk (BitVec.ofNat 8 a) (BitVec.ofNat 8 b)) else none
  | _ => none

/-- The command of a mnemonic and its operands (R116). -/
def assembleParts (mnemonic : String) (ns : List Nat) : Option Instr :=
  if mnemonic = "CRC.INIT" then noOperand .crcInit ns
  else if mnemonic = "CRC.BYTE" then byteOperand .crcByte ns
  else if mnemonic = "CRC.TXBUF" then lengthOperand .crcTxbuf ns
  else if mnemonic = "CRC.RXBUF" then lengthOperand .crcRxbuf ns
  else if mnemonic = "BUDGET.LOAD" then noOperand .budgetLoad ns
  else if mnemonic = "BUDGET.CHARGE" then noOperand .budgetCharge ns
  else if mnemonic = "FRAME.BUILD" then lengthOperand .frameBuild ns
  else if mnemonic = "FRAME.PDULEN" then pairOperand .framePdulen ns
  else if mnemonic = "FRAME.VERIFY" then lengthOperand .frameVerify ns
  else if mnemonic = "FRAME.FLUSH" then noOperand .frameFlush ns
  else if mnemonic = "FRAME.SEND" then noOperand .frameSend ns
  else if mnemonic = "FRAME.RECV" then noOperand .frameRecv ns
  else if mnemonic = "FRAME.XACT" then lengthOperand .frameXact ns
  else none

/-- The command of a line of text (R116). -/
def assembleCommand (text : String) : Option Instr :=
  match lineParts text with
  | some (mnemonic, ns) => assembleParts mnemonic ns
  | none => none

/-- The CMD word of a line of text (R116). -/
def assembleWord (text : String) : Option Word := (assembleCommand text).map commandWord

/-- Numbers as bytes, none when one is too large. -/
def asBytes : List Nat → Option (List Byte)
  | [] => some []
  | n :: ns => if n < 2 ^ 8 then (asBytes ns).map fun bs => BitVec.ofNat 8 n :: bs else none

/-- A line with an offset of the window and a value of so many bits. -/
def offsetValue (bits : Nat) (mk : BitVec 11 → Nat → HostLine) : List Nat → Option HostLine
  | [off, v] => if off < 2 ^ 11 ∧ v < 2 ^ bits then some (mk (BitVec.ofNat 11 off) v) else none
  | _ => none

/-- A line with a non-empty list of bytes. -/
def byteList (mk : List Byte → HostLine) : List Nat → Option HostLine
  | [] => none
  | n :: ns => (asBytes (n :: ns)).map mk

/-- The line of a host program that a text stands for (R117, R118); WAIT makes `reads` reads in the run at hand. -/
def assembleLine (reads : Nat) (text : String) : Option HostLine :=
  match lineParts text with
  | none => none
  | some (mnemonic, ns) =>
    if mnemonic = "W32" then offsetValue 32 (fun off v => .w32 off (BitVec.ofNat 32 v)) ns
    else if mnemonic = "W8" then offsetValue 8 (fun off v => .w8 off (BitVec.ofNat 8 v)) ns
    else if mnemonic = "R32" then
      match ns with
      | [off] => if off < 2 ^ 11 then some (.r32 (BitVec.ofNat 11 off)) else none
      | _ => none
    else if mnemonic = "WAIT" then if ns = [] then some (.wait reads) else none
    else if mnemonic = "CRC.OVER" then byteList .crcOver ns
    else if mnemonic = "LOADT" then
      match ns with
      | [t] => if t < 2 ^ 32 then some (.loadT (BitVec.ofNat 32 t)) else none
      | _ => none
    else if mnemonic = "PDU" then byteList .pdu ns
    else if mnemonic = "SETSLAVE" then
      match ns with
      | [b] => if b < 2 ^ 8 then some (.setSlave (BitVec.ofNat 8 b)) else none
      | _ => none
    else (assembleParts mnemonic ns).map .command

end Sys2Proof.Machine
end

