-- ==== Sys2Proof/Tests/Slice0.lean ====
section
/-! SUPPORT. Tests against the vectors of spec/95_test_vectors.md (named V-…, E…, P… there) and the tables of
spec/30_encoding.md, and a witness for every statement that has hypotheses: states and operands that meet them, at the ends
of their ranges. -/

namespace Sys2Proof.Tests

open Sys2Proof.Machine

/-! ### Helpers -/

/-- What a field of the next state holds, none when there is no next state. -/
def seen {α : Type} (f : State → α) : Result → Option α
  | .next t => some (f t)
  | .fault _ => none
  | .refused _ => none

/-- A result is a refusal of a host access. -/
def refusesAccess : Result → Bool
  | .refused .hostAccess => true
  | .refused (.notModelled _) => false
  | .next _ => false
  | .fault _ => false

/-- Bytes at a window offset on, in a state with nothing written above them. -/
def put (a : Nat) (bytes : List Byte) (s : State) : State :=
  { s with mem := s.mem ++ (List.range' a bytes.length).zip bytes }

/-- The start of section 2.6: SLAVE 1, the link open, a budget. -/
def linked (budget : Word) : State := { State.reset with slave := 0x01, linkOpen := true, budget := budget }

/-- The ADU that section 2.6 sends, as FRAME.BUILD leaves it. -/
def built (s : State) : State :=
  put 0x100 [0x01, 0x03, 0x00, 0x00, 0x00, 0x01, 0x84, 0x0A] { s with txLen := 8 }

/-- A flush is running. -/
def flushing (op : Byte) (x : Sub) (budget : Word) : State :=
  { built (linked budget) with busy := true, phase := .flush, sub := x, lastOp := op }

/-- A send is running, some bytes of the ADU taken. -/
def sending (op : Byte) (x : Sub) (budget : Word) (taken : Half) : State :=
  { built (linked budget) with busy := true, phase := .send, sub := x, lastOp := op, txWritten := taken }

/-- A header is being received. -/
def receivingHeader (x : Sub) (budget : Word) : State :=
  { linked budget with busy := true, phase := .rxHdr, sub := x, lastOp := 0x25, rxNeed := 3 }

/-- The header 01 03 02 is there, and four bytes are still to come. -/
def receivingRest (x : Sub) (budget : Word) : State :=
  put 0x300 [0x01, 0x03, 0x02]
    { linked budget with
      busy := true, phase := .rxRest, sub := x, lastOp := 0x25, rxNeed := 7, rxCount := 3 }

/-- The state before a step that takes this input. -/
def given (x : Input) (s : State) : State := { s with inputs := [x] }

/-! ### Well-formedness (R112, R97): each range check, at both ends and just outside -/

theorem test_wellFormed_txbuf : [0, 260, 261].map (fun n => WellFormed (.crcTxbuf n)) = [true, true, false] := by decide
theorem test_wellFormed_rxbuf : [0, 260, 261].map (fun n => WellFormed (.crcRxbuf n)) = [true, true, false] := by decide
theorem test_wellFormed_build :
    [0, 1, 253, 254].map (fun n => WellFormed (.frameBuild n)) = [false, true, true, false] := by decide
theorem test_wellFormed_verify :
    [3, 4, 256, 257].map (fun n => WellFormed (.frameVerify n)) = [false, true, true, false] := by decide
theorem test_wellFormed_xact :
    [0, 1, 253, 254].map (fun n => WellFormed (.frameXact n)) = [false, true, true, false] := by decide
theorem test_wellFormed_byteCount :
    (byteCountHeaders 251).map WellFormed = List.replicate 8 true ∧
      (byteCountHeaders 252).map WellFormed = List.replicate 8 false := by decide

/-! ### Decoding: one written-out word of every constructor (R110, R112, R95, R116 and the words of section 2) -/

theorem test_decode_crc :
    decode (.command 0x00000001) = .ok .crcInit ∧ decode (.command 0x00000102) = .ok (.crcByte 0x01) ∧
      decode (.command 0x00060003) = .ok (.crcTxbuf 6) ∧ decode (.command 0x00050004) = .ok (.crcRxbuf 5) := by decide
theorem test_decode_budget :
    decode (.command 0x00000010) = .ok .budgetLoad ∧ decode (.command 0x00000011) = .ok .budgetCharge := by decide
theorem test_decode_frame :
    decode (.command 0x00050020) = .ok (.frameBuild 5) ∧ decode (.command 0x00FA0321) = .ok (.framePdulen 0x03 0xFA) ∧
      decode (.command 0x00070022) = .ok (.frameVerify 7) ∧ decode (.command 0x00000023) = .ok .frameFlush ∧
      decode (.command 0x00000024) = .ok .frameSend ∧ decode (.command 0x00000025) = .ok .frameRecv ∧
      decode (.command 0x00050026) = .ok (.frameXact 5) := by decide
theorem test_decode_rejects :
    decode (.command 0x00000000) = .error .reservedOpcode ∧ decode (.command 0x12345627) = .error .reservedOpcode ∧
      decode (.command 0x00000101) = .error .reservedBits ∧ decode (.command 0x00010002) = .error .reservedBits ∧
      decode (.command 0x00FD0120) = .error .reservedBits ∧ decode (.command 0x01050321) = .error .reservedBits := by decide
theorem test_decode_exception_headers :
    [0x80, 0x83, 0xAB, 0xFF].map (fun fc => decode (.header fc 0x02)) =
      [.ok (.respExc 0x00 2), .ok (.respExc 0x03 2), .ok (.respExc 0x2B 2), .ok (.respExc 0x7F 2)] := by decide
theorem test_decode_headers_byteCount :
    [0x01, 0x02, 0x03, 0x04, 0x0C, 0x14, 0x17, 0x18].map (fun fc => decode (.header fc 9)) =
      [.ok (.respBc01 9), .ok (.respBc02 9), .ok (.respBc03 9), .ok (.respBc04 9), .ok (.respBc0C 9), .ok (.respBc14 9),
       .ok (.respBc17 9), .ok (.respBc18 9)] := by decide
theorem test_decode_headers_fixed :
    [0x0F, 0x10, 0x05, 0x06, 0x16, 0x0B, 0x11, 0x08].map (fun fc => decode (.header fc 9)) =
      [.ok (.respFix0F 9), .ok (.respFix10 9), .ok (.respFix05 9), .ok (.respFix06 9), .ok (.respFix16 9), .ok (.respFix0B 9),
       .ok (.respFix11 9), .ok (.respFix08 9)] := by decide
theorem test_decode_headers_unsupported_0_1 :
    [0x00, 0x07, 0x09, 0x0A, 0x0D, 0x0E, 0x12, 0x13, 0x15, 0x19, 0x1A, 0x1B, 0x1C, 0x1D, 0x1E, 0x1F].map
        (fun fc => decode (.header fc 1)) =
      [.ok (.respUnsup00 1), .ok (.respUnsup07 1), .ok (.respUnsup09 1), .ok (.respUnsup0A 1), .ok (.respUnsup0D 1),
       .ok (.respUnsup0E 1), .ok (.respUnsup12 1), .ok (.respUnsup13 1), .ok (.respUnsup15 1), .ok (.respUnsup19 1),
       .ok (.respUnsup1A 1), .ok (.respUnsup1B 1), .ok (.respUnsup1C 1), .ok (.respUnsup1D 1), .ok (.respUnsup1E 1),
       .ok (.respUnsup1F 1)] := by decide
theorem test_decode_headers_unsupported_2 :
    (List.range 16).map (fun k => decode (.header (BitVec.ofNat 8 (0x20 + k)) 1)) =
      [.ok (.respUnsup20 1), .ok (.respUnsup21 1), .ok (.respUnsup22 1), .ok (.respUnsup23 1), .ok (.respUnsup24 1),
       .ok (.respUnsup25 1), .ok (.respUnsup26 1), .ok (.respUnsup27 1), .ok (.respUnsup28 1), .ok (.respUnsup29 1),
       .ok (.respUnsup2A 1), .ok (.respUnsup2B 1), .ok (.respUnsup2C 1), .ok (.respUnsup2D 1), .ok (.respUnsup2E 1), .ok (.respUnsup2F 1)] := by decide
theorem test_decode_headers_unsupported_3 :
    (List.range 16).map (fun k => decode (.header (BitVec.ofNat 8 (0x30 + k)) 1)) =
      [.ok (.respUnsup30 1), .ok (.respUnsup31 1), .ok (.respUnsup32 1), .ok (.respUnsup33 1), .ok (.respUnsup34 1),
       .ok (.respUnsup35 1), .ok (.respUnsup36 1), .ok (.respUnsup37 1), .ok (.respUnsup38 1), .ok (.respUnsup39 1),
       .ok (.respUnsup3A 1), .ok (.respUnsup3B 1), .ok (.respUnsup3C 1), .ok (.respUnsup3D 1), .ok (.respUnsup3E 1), .ok (.respUnsup3F 1)] := by decide
theorem test_decode_headers_unsupported_4 :
    (List.range 16).map (fun k => decode (.header (BitVec.ofNat 8 (0x40 + k)) 1)) =
      [.ok (.respUnsup40 1), .ok (.respUnsup41 1), .ok (.respUnsup42 1), .ok (.respUnsup43 1), .ok (.respUnsup44 1),
       .ok (.respUnsup45 1), .ok (.respUnsup46 1), .ok (.respUnsup47 1), .ok (.respUnsup48 1), .ok (.respUnsup49 1),
       .ok (.respUnsup4A 1), .ok (.respUnsup4B 1), .ok (.respUnsup4C 1), .ok (.respUnsup4D 1), .ok (.respUnsup4E 1), .ok (.respUnsup4F 1)] := by decide
theorem test_decode_headers_unsupported_5 :
    (List.range 16).map (fun k => decode (.header (BitVec.ofNat 8 (0x50 + k)) 1)) =
      [.ok (.respUnsup50 1), .ok (.respUnsup51 1), .ok (.respUnsup52 1), .ok (.respUnsup53 1), .ok (.respUnsup54 1),
       .ok (.respUnsup55 1), .ok (.respUnsup56 1), .ok (.respUnsup57 1), .ok (.respUnsup58 1), .ok (.respUnsup59 1),
       .ok (.respUnsup5A 1), .ok (.respUnsup5B 1), .ok (.respUnsup5C 1), .ok (.respUnsup5D 1), .ok (.respUnsup5E 1), .ok (.respUnsup5F 1)] := by decide
theorem test_decode_headers_unsupported_6 :
    (List.range 16).map (fun k => decode (.header (BitVec.ofNat 8 (0x60 + k)) 1)) =
      [.ok (.respUnsup60 1), .ok (.respUnsup61 1), .ok (.respUnsup62 1), .ok (.respUnsup63 1), .ok (.respUnsup64 1),
       .ok (.respUnsup65 1), .ok (.respUnsup66 1), .ok (.respUnsup67 1), .ok (.respUnsup68 1), .ok (.respUnsup69 1),
       .ok (.respUnsup6A 1), .ok (.respUnsup6B 1), .ok (.respUnsup6C 1), .ok (.respUnsup6D 1), .ok (.respUnsup6E 1), .ok (.respUnsup6F 1)] := by decide
theorem test_decode_headers_unsupported_7 :
    (List.range 16).map (fun k => decode (.header (BitVec.ofNat 8 (0x70 + k)) 1)) =
      [.ok (.respUnsup70 1), .ok (.respUnsup71 1), .ok (.respUnsup72 1), .ok (.respUnsup73 1), .ok (.respUnsup74 1),
       .ok (.respUnsup75 1), .ok (.respUnsup76 1), .ok (.respUnsup77 1), .ok (.respUnsup78 1), .ok (.respUnsup79 1),
       .ok (.respUnsup7A 1), .ok (.respUnsup7B 1), .ok (.respUnsup7C 1), .ok (.respUnsup7D 1), .ok (.respUnsup7E 1), .ok (.respUnsup7F 1)] := by decide

/-! ### The host's two hooks: a table row's bits, and the state in which the next step runs them -/

theorem test_decodeTableWord :
    decodeTableWord 32 0x00050020 = some (.frameBuild 5) ∧ decodeTableWord 16 0x0102 = some (.crcByte 1) ∧
      decodeTableWord 8 0x03 = some (.respBc03 0) ∧ decodeTableWord 8 0x83 = some (.respExc 3 0) ∧
      decodeTableWord 32 0x05 = none := by decide
theorem test_fetch_command :
    seen (fun t => (t.crc, t.lastOp, t.done)) (step (State.reset.withFetchWord 32 0x00000102)) = some (0x807E, 0x02, true) := by
  decide
theorem test_fetch_header :
    seen (fun t => (t.err, t.detail, t.endPhase)) (step (State.reset.withFetchWord 8 0x2B)) =
      some (.protocolError, 1, .rxHdr) := by decide

/-! ### The CRC Engine (V-C1, V-C2, V-C4) -/

theorem test_crcByte :
    crcByte 0xFFFF 0x80 = 0xE0BE ∧ crcByte 0xFFFF 0xFF = 0x00FF ∧ crcByte 0x0000 0xFF = 0x4040 ∧
      crcByte 0x1234 0x56 = 0xE993 := by decide
theorem test_crc16_check : crc16 [0x31, 0x32, 0x33, 0x34, 0x35, 0x36, 0x37, 0x38, 0x39] = 0x4B37 := by decide +kernel
theorem test_crc16_request : crc16 [0x11, 0x03, 0x00, 0x6B, 0x00, 0x03] = 0x8776 := by decide +kernel
theorem test_crcInit : seen State.crc (exec .crcInit { State.reset with crc := 0x1234 }) = some 0xFFFF := by decide
theorem test_crcByte_continues : seen State.crc (exec (.crcByte 0x03) { State.reset with crc := 0x807E }) = some 0x2140 := by
  decide
theorem test_crcTxbuf :
    seen State.crc (exec (.crcTxbuf 6) (put 0x100 [0x01, 0x03, 0x00, 0x00, 0x00, 0x0A] State.reset)) = some 0xCDC5 := by
  decide +kernel
theorem test_crcTxbuf_range :
    seen (fun t => (t.err, t.detail, t.crc)) (exec (.crcTxbuf 261) { State.reset with crc := 0x1234 }) =
      some (.invalidOperation, 3, 0x1234) := by decide
theorem test_crcRxbuf :
    seen (fun t => (t.crc, t.rxValid)) (exec (.crcRxbuf 5) (put 0x300 [0x01, 0x03, 0x02, 0x00, 0x2A] State.reset)) =
      some (0x9B39, false) := by decide +kernel

/-! ### The budget tracker (V-T1, V-T2) -/

theorem test_budgetLoad :
    seen (fun t => (t.budget, t.mark, t.exhausted))
        (exec .budgetLoad { State.reset with arg := 0xFFFFFFFF, now := 5000 }) = some (0xFFFFFFFF, 5000, true) := by decide
theorem test_budgetCharge_wrap :
    seen (fun t => (t.budget, t.mark))
        (exec .budgetCharge { State.reset with budget := 300, mark := 0xFFFFFF00, now := 0x10 }) = some (28, 0x10) := by decide
theorem test_budgetCharge_bottom :
    seen State.budget (exec .budgetCharge { State.reset with budget := 0x80000005, now := 0x64 }) = some 0x80000000 ∧
      seen State.budget (exec .budgetCharge { State.reset with budget := 0x7FFFFFFF, now := 0xFFFFFFFF }) =
        some 0x80000000 ∧
      seen State.budget (exec .budgetCharge { State.reset with budget := 5, mark := 10, now := 9 }) = some 0x80000000 := by
  decide

/-! ### The framer's immediate commands (V-B1, V-L3, V-V1) -/

theorem test_frameBuild :
    seen (fun t => (t.txBytes 0 4, t.txLen, t.crc)) (exec (.frameBuild 1) (put 0x101 [0x2B] (linked 0))) =
      some ([0x01, 0x2B, 0x40, 0x3F], 4, 0x3F40) := by decide +kernel
theorem test_frameBuild_range :
    seen (fun t => (t.err, t.detail, t.txLen)) (exec (.frameBuild 254) (linked 0)) = some (.invalidOperation, 3, 0) := by
  decide
theorem test_framePdulen :
    seen State.result (exec (.framePdulen 0x03 0xFB) State.reset) = some 253 ∧
      seen State.result (exec (.framePdulen 0x10 0xFF) State.reset) = some 5 ∧
      seen State.result (exec (.framePdulen 0x16 0x00) State.reset) = some 7 ∧
      seen State.result (exec (.framePdulen 0xAB 0x01) State.reset) = some 2 := by decide
theorem test_framePdulen_errors :
    seen (fun t => (t.result, t.err, t.detail)) (exec (.framePdulen 0x03 0xFC) { State.reset with result := 9 }) =
        some (0, .protocolError, 2) ∧
      seen (fun t => (t.result, t.err, t.detail)) (exec (.framePdulen 0x2B 0x00) { State.reset with result := 9 }) =
        some (0, .protocolError, 1) := by decide
theorem test_frameVerify :
    seen (fun t => (t.err, t.rxValid, t.rxPduLen, t.crc, t.rxNeed, t.endPhase))
        (exec (.frameVerify 4) (put 0x300 [0x01, 0x2B, 0x40, 0x3F] (linked 0))) =
      some (.success, true, 1, 0x3F40, 4, .verify) := by decide +kernel
theorem test_frameVerify_swapped :
    seen (fun t => (t.err, t.detail, t.rxValid, t.crc))
        (exec (.frameVerify 5) (put 0x300 [0x01, 0x83, 0x02, 0xF1, 0xC0] (linked 0))) =
      some (.protocolError, 4, false, 0xF1C0) := by decide +kernel

/-! ### Accept-time errors and the STATUS word (V-A1 to V-A14) -/

theorem test_status_rejected_words :
    [0x00000000, 0x12345627, 0x00000101, 0x00FE0020, 0x00FD0120, 0x00000024].map
        (fun w => seen State.statusWord (acceptCommand w { State.reset with linkOpen := true })) =
      [some 0x00010112, some 0x27010112, some 0x01020112, some 0x20030112, some 0x20020112, some 0x24050112] := by decide
theorem test_status_closed_link :
    [0x00000023, 0x00000024, 0x00000025, 0x00FE0026].map (fun w => seen State.statusWord (acceptCommand w State.reset)) =
      [some 0x23040112, some 0x24040112, some 0x25040112, some 0x26030112] := by decide
theorem test_accept_drops_frame :
    [0x00000122, 0x00030022, 0x00000025, 0x00FE0026, 0x01010004].map
        (fun w => seen (fun t => (t.rxValid, t.rxPduLen)) (acceptCommand w { State.reset with rxValid := true, rxPduLen := 4 })) =
      [some (false, 0), some (false, 0), some (false, 0), some (false, 0), some (true, 4)] := by decide
theorem test_status_load :
    seen State.statusWord (acceptCommand 0x00000010 { State.reset with arg := 0xFFFFFFFF }) = some 0x10000012 := by decide

/-! ### The phase commands, one round each (V-F1 to V-X3) -/

theorem test_frameFlush_idle :
    seen (fun t => (t.err, t.endPhase, t.budget.toInt))
        (step (given (.round (.poll .idle) 120) (flushing 0x23 .poll 100))) = some (.success, .flush, -20) := by decide
theorem test_frameFlush_reads :
    seen (fun t => (t.flushCount, t.busy, t.sub, t.mark))
        (step (given (.round (.read (.ok [5, 5])) 2) (flushing 0x23 .xfer 99))) = some (2, true, .poll, 2) := by decide
theorem test_frameSend_partial :
    seen (fun t => (t.txWritten, t.budget, t.txStream, t.busy))
        (step (given (.round (.write (.ok 3)) 2) (sending 0x24 .xfer 100 0))) =
      some (3, 98, [0x01, 0x03, 0x00], true) := by decide
theorem test_frameSend_completes_exhausted :
    seen (fun t => (t.err, t.txWritten, t.budget.toInt))
        (step (given (.round (.write (.ok 8)) 150) (sending 0x24 .xfer 100 0))) = some (.success, 8, -50) := by decide
theorem test_frameRecv_unsupported :
    seen (fun t => (t.err, t.detail, t.endPhase, t.rxCount, t.rxNeed))
        (step (given (.round (.read (.ok [0x01, 0x2B, 0x0E])) 2) (receivingHeader .xfer 99))) =
      some (.protocolError, 1, .rxHdr, 3, 3) := by decide
theorem test_frameRecv_too_many :
    seen (fun t => (t.err, t.detail, t.rxCount, t.mem))
        (step (given (.round (.read (.ok [0x01, 0x03, 0x02, 0x00])) 2) (receivingHeader .xfer 99))) =
      some (.internalError, 1, 0, []) := by decide
theorem test_frameRecv_verifies :
    seen (fun t => (t.err, t.endPhase, t.rxValid, t.rxPduLen, t.rxCount))
        (step (given (.round (.read (.ok [0x00, 0x2A, 0x39, 0x9B])) 10) (receivingRest .xfer 98))) =
      some (.success, .verify, true, 4, 7) := by decide +kernel
theorem test_frameRecv_closed :
    seen (fun t => (t.err, t.detail, t.calls)) (step (given (.round (.poll .ready) 1)
        { receivingHeader .poll 100 with linkOpen := false })) = some (.linkBroken, 3, []) := by decide
theorem test_frameXact_exhausted :
    seen (fun t => (t.err, t.detail, t.endPhase, t.txLen, t.crc))
        (exec (.frameXact 1) (put 0x101 [0x2B] (linked 0))) = some (.timeout, 1, .flush, 4, 0x3F40) := by decide +kernel
theorem test_frameXact_no_receive :
    seen (fun t => (t.err, t.detail, t.endPhase, t.txWritten, t.calls.length))
        (step (given (.round (.write (.ok 8)) 100) (sending 0x26 .xfer 100 0))) = some (.timeout, 1, .rxHdr, 8, 1) := by
  decide

/-! ### Response headers: the frame length each row gives (V-L3), and its errors -/

theorem test_respExc :
    seen (fun t => (t.rxNeed, t.phase)) (exec (.respExc 0x03 0x02) (receivingHeader .xfer 1)) = some (5, .rxRest) := by decide
theorem test_respBc :
    [Instr.respBc01 1, .respBc02 1, .respBc03 0xFB, .respBc04 0xFA, .respBc0C 3, .respBc14 5, .respBc17 6, .respBc18 4].map
        (fun i => seen State.rxNeed (exec i (receivingHeader .xfer 1))) =
      [some 6, some 6, some 256, some 255, some 8, some 10, some 11, some 9] := by decide
theorem test_respBc_range :
    (byteCountHeaders 0xFC).map (fun i => seen (fun t => (t.err, t.detail)) (exec i (receivingHeader .xfer 1))) =
      List.replicate 8 (some (.protocolError, 2)) := by decide
theorem test_respFix :
    [Instr.respFix0F 0, .respFix10 0xFF, .respFix05 9, .respFix06 0, .respFix16 0, .respFix0B 0, .respFix11 0, .respFix08 0].map
        (fun i => seen State.rxNeed (exec i (receivingHeader .xfer 1))) =
      [some 8, some 8, some 8, some 8, some 10, some 8, some 8, some 8] := by decide
theorem test_respUnsup :
    (unsupportedHeaders 0).map (fun i => seen (fun t => (t.err, t.detail)) (exec i (receivingHeader .xfer 1))) =
      List.replicate 112 (some (.protocolError, 1)) := by decide

/-! ### The host's window -/

theorem test_collision :
    seen (fun t => (t.coll, t.arg, t.lastOp)) (step (given (.host 8 (.write .w32 5) 0) (flushing 0x23 .poll 100))) =
      some (true, 0, 0x23) := by decide
theorem test_access_refused :
    refusesAccess (step (given (.host 2 (.read .w32) 0) State.reset)) = true ∧
      refusesAccess (step (given (.host 0x204 (.read .w8) 0) State.reset)) = true ∧
      refusesAccess (step (given (.host 0x404 (.write .w8 0) 0) State.reset)) = true := by decide
theorem test_now_register :
    seen State.hostData (step (given (.host 0x018 (.read .w32) 0x1234) State.reset)) = some (some 0x1234) := by decide
theorem test_rxbuf_write_clears_valid :
    seen (fun t => (t.rxValid, t.rx 0x103)) (step (given (.host 0x403 (.write .w8 7) 0)
        { State.reset with rxValid := true, rxPduLen := 1 })) = some (false, 7) := by decide
theorem test_reset_released_twice :
    seen (fun t => (t.busy, t.phase, t.slave, t.epoch, t.inputs)) (step (given (.reset false) (flushing 0x23 .poll 100))) =
      some (true, .flush, 0x01, 0, []) := by decide
theorem test_reset_drops_command :
    seen (fun t => (t.busy, t.crc, t.mem, t.epoch)) (step (given (.reset true) (flushing 0x23 .poll 100))) =
      some (false, 0xFFFF, [], 1) := by decide

/-! ### The assembler (R116 to R118, and lines of P1 to P3) -/

theorem test_assembleWord :
    assembleWord "FRAME.BUILD 5" = some 0x00050020 ∧ assembleWord "FRAME.PDULEN 0x03, 0x02" = some 0x00020321 ∧
      assembleWord "CRC.BYTE 0x0A" = some 0x00000A02 ∧ assembleWord "FRAME.RECV" = some 0x00000025 ∧
      assembleWord "CRC.BYTE 256" = none ∧ assembleWord "FRAME.SEND 1" = none := by decide +kernel
theorem test_assembleLine :
    assembleLine 0 "W32 0x00C, 0x00000011" = some (.w32 0x00C 0x11) ∧
      assembleLine 0 "PDU 0x03, 0x00, 0x6B" = some (.pdu [0x03, 0x00, 0x6B]) ∧
      assembleLine 0 "LOADT 1000" = some (.loadT 1000) ∧ assembleLine 2 "WAIT" = some (.wait 2) ∧
      assembleLine 0 "FRAME.XACT 5" = some (.command (.frameXact 5)) := by decide +kernel
theorem test_pdu_line :
    (HostLine.pdu [0x03, 0x00]).inputs 9 = [.host 0x101 (.write .w8 0x03) 9, .host 0x102 (.write .w8 0x00) 9] := by decide

/-! ### Witnesses: for each statement of Certificates/Slice0/Obligations.lean with hypotheses, states and operands that meet
them, clause by clause, at the ends of their ranges -/

/-- A command write waits, as the next input. -/
def writing (w : Word) (s : State) : State := given (.host 0 (.write .w32 w) 7) s

/-- A verified frame of 256 bytes is in RXBUF, or one with its last byte wrong. -/
def longFrame (last : Byte) : State :=
  put 0x300 (0x01 :: (List.replicate 253 0x00 ++ [0x55, last])) (linked 0)

theorem witness_EncodeOfDecode :
    decode (.command 0xFFFF0003) = .ok (.crcTxbuf 0xFFFF) ∧ decode (.header 0xFF 0xFF) = .ok (.respExc 0x7F 0xFF) := by decide

theorem witness_HeadersAreClassified :
    (0x80 : Byte) ≤ 0x80 ∧ (0x80 : Byte) ≤ 0xFF ∧ ¬(0x80 : Byte) ≤ 0x7F ∧
      (0x01 : Byte) ∈ ([0x01, 0x02, 0x03, 0x04, 0x0C, 0x14, 0x17, 0x18] : List Byte) ∧
      (0x08 : Byte) ∈ ([0x0F, 0x10, 0x05, 0x06, 0x0B, 0x11, 0x08] : List Byte) ∧
      ∀ fc ∈ ([0x00, 0x7F] : List Byte), fc < 0x80 ∧
        fc ∉ ([0x01, 0x02, 0x03, 0x04, 0x0C, 0x14, 0x17, 0x18, 0x0F, 0x10, 0x05, 0x06, 0x16, 0x0B, 0x11, 0x08] : List Byte) := by
  decide

theorem witness_StepRunsTheCommandWritten :
    let s := writing 0x00FD0026 State.reset
    s.busy = false ∧ s.resetAsserted = false ∧ s.inputs = [.host 0x000 (.write .w32 0x00FD0026) 7] ∧
      decode (.command 0x00FD0026) = .ok (.frameXact 253) := by decide

theorem inv_receivingHeader : Inv (receivingHeader .xfer 1) ∧ Inv (receivingHeader .poll 1) :=
  ⟨⟨by decide, by decide, by decide, by decide, by decide, by decide, by decide, by decide, by decide⟩,
    ⟨by decide, by decide, by decide, by decide, by decide, by decide, by decide, by decide, by decide⟩⟩

theorem witness_StepRunsTheHeaderReceived :
    let s := given (.round (.read (.ok [0x01, 0x2B, 0x0E])) 2) (receivingHeader .xfer 1)
    Inv s ∧ RunningOpen s .rxHdr .xfer ∧ s.rxCount.toNat + 3 = 3 :=
  ⟨inv_receivingHeader.1, by decide, by decide⟩

theorem witness_IllegalWordsCompleteAtOnce :
    Idle State.reset ∧ (∀ m, ((0x27 : Byte), m) ∉ opcodeMap) ∧
      ((0x01, 0xFFFFFF00) ∈ opcodeMap ∧ (0x00000101 : Word) &&& 0xFFFFFF00 ≠ 0) ∧
      ((0x03, 0x0000FF00) ∈ opcodeMap ∧ (0x01050003 : Word) &&& 0x0000FF00 = 0 ∧ (0x03, 0, 260) ∈ lengthMap ∧
        ¬(0 ≤ (261 : Half).toNat ∧ (261 : Half).toNat ≤ 260)) ∧
      ((0x26, 1, 253) ∈ lengthMap ∧ ¬(1 ≤ (0 : Half).toNat ∧ (0 : Half).toNat ≤ 253) ∧
        ¬(1 ≤ (254 : Half).toNat ∧ (254 : Half).toNat ≤ 253)) := by
  refine ⟨by decide, by simp [opcodeMap], by simp [opcodeMap], ?_, by decide⟩
  refine ⟨by simp [opcodeMap], by decide, by decide, by decide⟩

theorem witness_TransportCommandsNeedTheLink :
    Idle State.reset ∧ State.reset.linkOpen = false ∧ (1 ≤ (1 : Half).toNat ∧ (253 : Half).toNat ≤ 253) ∧
      Idle (linked 1) ∧ (linked 1).linkOpen = true ∧ (linked 1).txLen = 0 := by decide

/-- CrcInitResult, CrcByteResult, BudgetLoadResult, BudgetChargeResult, and the reserved bits of every format: the lowest and
the highest reserved bit of each row. -/
theorem witness_RejectsReservedBits :
    Idle State.reset ∧
      ∀ p ∈ ([(0x00000101, 0x01, 0xFFFFFF00), (0x80000001, 0x01, 0xFFFFFF00), (0x00010002, 0x02, 0xFFFF0000),
          (0x80000002, 0x02, 0xFFFF0000), (0x00000103, 0x03, 0x0000FF00), (0x00008003, 0x03, 0x0000FF00),
          (0x00000104, 0x04, 0x0000FF00), (0x80000010, 0x10, 0xFFFFFF00), (0x80000011, 0x11, 0xFFFFFF00),
          (0x00FD0120, 0x20, 0x0000FF00), (0x01050321, 0x21, 0xFF000000), (0x80000021, 0x21, 0xFF000000),
          (0x00008022, 0x22, 0x0000FF00)] : List (Word × Byte × Word)),
        p.1.extractLsb' 0 8 = p.2.1 ∧ p.1 &&& p.2.2 ≠ 0 := by
  refine ⟨by decide, by simp⟩

theorem witness_CrcBufferResult :
    Idle State.reset ∧ (0 : Half).toNat ≤ 260 ∧ (260 : Half).toNat ≤ 260 ∧ 260 < (261 : Half).toNat := by decide

/-- FrameBuildResult and XactStarts: the legal ends, and for XactStarts a budget on both sides of exhaustion. -/
theorem witness_FrameBuildResult_XactStarts :
    (1 ≤ (1 : Half).toNat ∧ (253 : Half).toNat ≤ 253) ∧ ¬(1 ≤ (0 : Half).toNat ∧ (0 : Half).toNat ≤ 253) ∧
      ¬(1 ≤ (254 : Half).toNat ∧ (254 : Half).toNat ≤ 253) ∧ Idle (linked 1) ∧ (linked 1).linkOpen = true ∧
      0 < (linked 1).budget.toInt ∧ Idle (linked 0) ∧ (linked 0).budget.toInt ≤ 0 := by decide

theorem witness_FramePdulenResult :
    Idle State.reset ∧ (0x80 : Byte) ≤ 0x80 ∧ (0x03 : Byte) ∈ ([0x01, 0x02, 0x03, 0x04, 0x0C, 0x14, 0x17, 0x18] : List Byte) ∧
      (251 : Byte).toNat ≤ 251 ∧ 252 ≤ (252 : Byte).toNat ∧ (0x0F : Byte) ∈ ([0x0F, 0x10, 0x05, 0x06, 0x0B, 0x11, 0x08] : List Byte) ∧
      ((0x7F : Byte) < 0x80 ∧ (0x7F : Byte) ∉ ([0x01, 0x02, 0x03, 0x04, 0x0C, 0x14, 0x17, 0x18] : List Byte) ∧
        (0x7F : Byte) ∉ ([0x0F, 0x10, 0x05, 0x06, 0x0B, 0x11, 0x08] : List Byte) ∧ (0x7F : Byte) ≠ 0x16) := by decide

/-- FrameVerifyResult and VerificationOutcome: the three outcomes at 4 bytes, then at 256. -/
theorem witness_VerificationOutcome_4 :
    let right := put 0x300 [0x01, 0x2B, 0x40, 0x3F] (linked 0)
    let wrong := put 0x300 [0x01, 0x2B, 0x40, 0x3E] (linked 0)
    Idle right ∧ 4 ≤ (4 : Half).toNat ∧ right.rx 0 = right.slave ∧ wrong.rx 0 = wrong.slave ∧
      (right.rx 2 = (crc16 (right.rxBytes 0 2)).extractLsb' 0 8 ∧ right.rx 3 = (crc16 (right.rxBytes 0 2)).extractLsb' 8 8) ∧
      ¬(wrong.rx 2 = (crc16 (wrong.rxBytes 0 2)).extractLsb' 0 8 ∧ wrong.rx 3 = (crc16 (wrong.rxBytes 0 2)).extractLsb' 8 8) ∧
      ({ right with slave := 0x02 } : State).rx 0 ≠ 0x02 ∧ ¬(4 ≤ (3 : Half).toNat ∧ (3 : Half).toNat ≤ 256) ∧
      ¬(4 ≤ (257 : Half).toNat ∧ (257 : Half).toNat ≤ 256) := by decide +kernel
theorem longFrame_bytes : (longFrame 0x1F).rxBytes 0 254 = 0x01 :: List.replicate 253 0x00 ∧
    (longFrame 0x00).rxBytes 0 254 = 0x01 :: List.replicate 253 0x00 := by decide +kernel
theorem longFrame_crc : crc16 (0x01 :: List.replicate 253 0x00) = 0x1F55 := by
  have h1 : (0x01 :: List.replicate 63 0x00).foldl crcByte 0xFFFF = 0xDF81 := by decide +kernel
  have h2 : (List.replicate 64 0x00).foldl crcByte 0xDF81 = 0x67FF := by decide +kernel
  have h3 : (List.replicate 64 0x00).foldl crcByte 0x67FF = 0xC9D9 := by decide +kernel
  have h4 : (List.replicate 62 0x00).foldl crcByte 0xC9D9 = 0x1F55 := by decide +kernel
  have hl : (0x01 : Byte) :: List.replicate 253 0x00 = (0x01 :: List.replicate 63 0x00) ++ (List.replicate 64 0x00 ++
      (List.replicate 64 0x00 ++ List.replicate 62 0x00)) := by
    simp only [List.cons_append, List.replicate_append_replicate]
  rw [crc16, hl, List.foldl_append, h1, List.foldl_append, h2, List.foldl_append, h3, h4]
theorem witness_VerificationOutcome_256 :
    let c := crc16 ((longFrame 0x1F).rxBytes 0 254)
    let d := crc16 ((longFrame 0x00).rxBytes 0 254)
    Idle (longFrame 0x1F) ∧ (256 : Half).toNat ≤ 256 ∧ (longFrame 0x1F).rx 0 = (longFrame 0x1F).slave ∧
      ((longFrame 0x1F).rx 254 = c.extractLsb' 0 8 ∧ (longFrame 0x1F).rx 255 = c.extractLsb' 8 8) ∧
      (longFrame 0x00).rx 0 = (longFrame 0x00).slave ∧
      ¬((longFrame 0x00).rx 254 = d.extractLsb' 0 8 ∧ (longFrame 0x00).rx 255 = d.extractLsb' 8 8) := by
  intro c d
  have hc : c = 0x1F55 := (congrArg crc16 longFrame_bytes.1).trans longFrame_crc
  have hd : d = 0x1F55 := (congrArg crc16 longFrame_bytes.2).trans longFrame_crc
  rw [hc, hd]
  decide +kernel

/-- FlushStarts, SendStarts, RecvStarts: an open link, a built ADU, and the budgets 1, 0 and the least. -/
theorem witness_PhaseStarts :
    Idle (built (linked 1)) ∧ (built (linked 1)).linkOpen = true ∧ (built (linked 1)).txLen ≠ 0 ∧
      0 < (built (linked 1)).budget.toInt ∧ Idle (built (linked 0)) ∧ (built (linked 0)).budget.toInt ≤ 0 ∧
      (built (linked 0x80000000)).budget.toInt ≤ 0 := by decide

/-- ExceptionHeaderResult, ByteCountHeadersResult, FixedHeadersResult, UnsupportedHeadersResult. -/
theorem witness_HeaderResults :
    0 < (receivingHeader .xfer 1).budget.toInt ∧ (receivingHeader .xfer 0).budget.toInt ≤ 0 ∧
      Instr.respBc18 251 ∈ byteCountHeaders 251 ∧ (251 : Byte).toNat ≤ 251 ∧ Instr.respBc01 252 ∈ byteCountHeaders 252 ∧
      252 ≤ (252 : Byte).toNat ∧ (Instr.respFix16 0, 7) ∈ fixedHeaders 0 ∧ (Instr.respFix0F 255, 5) ∈ fixedHeaders 255 ∧
      Instr.respUnsup00 0 ∈ unsupportedHeaders 0 ∧ Instr.respUnsup7F 255 ∈ unsupportedHeaders 255 := by decide

theorem witness_HeadersAgreeWithPdulen :
    decode (.header 0x03 251) = .ok (.respBc03 251) ∧
      seen State.err (exec (.framePdulen 0x03 251) State.reset) = some .success ∧
      seen State.err (exec (.framePdulen 0x03 252) State.reset) = some .protocolError := by decide

theorem witness_CrcFindsAnyOneByteError : (0x00 : Byte) ≠ 0x01 := by decide

/-- CrcBytesFromResetValue and CrcOverLeavesTheCrc. -/
theorem witness_CrcRuns :
    let s : State := { State.reset with inputs := [commandInput 0 (.crcByte 0x01), commandInput 0 (.crcByte 0x03)] }
    let u : State := { State.reset with crc := 0x1234, inputs := (HostLine.crcOver [0x01]).inputs 0 }
    Idle s ∧ s.resetAsserted = false ∧ s.crc = 0xFFFF ∧
      s.inputs = [0x01, 0x03].map (fun b => commandInput 0 (.crcByte b)) ++ [] ∧
      Idle u ∧ u.resetAsserted = false ∧ u.inputs = (HostLine.crcOver [0x01]).inputs 0 ++ [] := by decide

theorem witness_PduLineWritesTheBuffer :
    let s : State := { State.reset with inputs := (HostLine.pdu (List.replicate 259 0)).inputs 0 }
    s.busy = false ∧ s.resetAsserted = false ∧ (List.replicate 259 (0 : Byte)).length ≤ 259 ∧
      s.inputs = (HostLine.pdu (List.replicate 259 0)).inputs 0 ++ [] := by decide +kernel

theorem witness_BuiltFrameVerifies :
    let s := put 0x101 [0x2B] (linked 0)
    let u := put 0x300 [0x01, 0x2B, 0x40, 0x3F] (linked 0)
    Idle s ∧ (1 ≤ (1 : Half).toNat ∧ (253 : Half).toNat ≤ 253) ∧ Idle u ∧ u.slave = s.slave ∧
      seen (fun t => t.txBytes 0 4) (exec (.frameBuild 1) s) = some (u.rxBytes 0 4) := by decide +kernel

theorem witness_MemoryIsCanonical :
    Memory.wf [(0x100, 1), (0x403, 2)] = true ∧
      ∀ a ∈ [0x100, 0x203, 0x300, 0x403], (0x100 ≤ a ∧ a ≤ 0x203) ∨ (0x300 ≤ a ∧ a ≤ 0x403) := by decide

theorem witness_ReceivedBytesAreStored :
    ({ State.reset with rxCount := 255 } : State).rxCount.toNat + [(1 : Byte), 2, 3, 4, 5].length ≤ 260 := by decide

theorem witness_ChargesTelescope :
    let s : State := { State.reset with arg := 0x7FFFFFFF }
    Idle s ∧ elapsedThrough s.now [0xFFFFFFFF] < 2 ^ 32 ∧ -(2 ^ 31) ≤ s.arg.toInt - elapsedThrough s.now [0xFFFFFFFF] := by
  decide

/-- StatusLayout, HostReadsGiveBack, WritesAndWaitingWhileIdle: an idle block out of reset, and an access to each end of each range. -/
theorem witness_HostAccesses :
    State.reset.busy = false ∧ State.reset.resetAsserted = false ∧
      ((0x000, 0) ∈ registerValues State.reset ∧ (0x044, 0) ∈ registerValues State.reset) ∧
      (∀ off ∈ ([0x48, 0xFC] : List (BitVec 11)), 0x48 ≤ off.toNat ∧ off.toNat ≤ 0xFC ∧ off.toNat % 4 = 0) ∧
      (∀ off ∈ ([0x004, 0x010, 0x044, 0x0FC] : List (BitVec 11)), off.toNat ≤ 0xFC ∧ off.toNat % 4 = 0 ∧
        off ∉ ([0x000, 0x008, 0x00C, 0x03C] : List (BitVec 11))) ∧
      (given (.host (BitVec.ofNat 11 (0x100 + 259)) (.write .w8 1) 0) State.reset).inputs = [.host 0x203 (.write .w8 1) 0] ∧
      (given (.host (BitVec.ofNat 11 (0x300 + 259)) (.read .w8) 0) State.reset).inputs = [.host 0x403 (.read .w8) 0] := by
  decide

/-- AccessesAdmittedAndRefused and WritesWhileBusyAreDropped: the ends of the three admitted ranges, and just outside. -/
theorem witness_Admitted :
    (∀ p ∈ ([(0x000, .w32), (0x0FC, .w32), (0x100, .w8), (0x203, .w8), (0x300, .w8), (0x403, .w8)] :
        List (BitVec 11 × Width)), Admitted p.1 p.2) ∧
      (∀ p ∈ ([(0x0FD, .w32), (0x000, .w8), (0x100, .w32), (0x204, .w8), (0x2FF, .w8), (0x404, .w8), (0x7FF, .w16)] :
        List (BitVec 11 × Width)), ¬Admitted p.1 p.2) ∧
      (flushing 0x23 .poll 1).busy = true ∧ (flushing 0x23 .poll 1).resetAsserted = false := by decide

/-- WindowStandsAtBlockBase: the first address above the window is outside it, wherever the window stands. -/
theorem witness_WindowStandsAtBlockBase :
    State.reset.resetAsserted = false ∧
      ¬(Config.blockBase.toNat ≤ (Config.blockBase + 0x800).toNat ∧
        (Config.blockBase + 0x800).toNat < Config.blockBase.toNat + 0x800) := by
  refine ⟨rfl, ?_⟩
  have h := Config.blockBase.isLt
  have h2 : (0x800 : Word).toNat = 2048 := by decide
  rw [BitVec.toNat_add, h2]
  omega

theorem inv_sending_poll : Inv (sending 0x24 .poll 1 7) :=
  ⟨by decide, by decide, by decide, by decide, by decide, by decide, by decide, by decide, by decide⟩
theorem inv_sending_send : Inv (sending 0x24 .xfer 1 7) :=
  ⟨by decide, by decide, by decide, by decide, by decide, by decide, by decide, by decide, by decide⟩
theorem inv_sending_xact : Inv (sending 0x26 .xfer 1 7) :=
  ⟨by decide, by decide, by decide, by decide, by decide, by decide, by decide, by decide, by decide⟩
theorem inv_receivingRest : Inv (receivingRest .xfer 1) :=
  ⟨by decide, by decide, by decide, by decide, by decide, by decide, by decide, by decide, by decide⟩
theorem inv_flushing_flush : Inv (flushing 0x23 .poll 1) :=
  ⟨by decide, by decide, by decide, by decide, by decide, by decide, by decide, by decide, by decide⟩
theorem inv_flushing_xact : Inv (flushing 0x26 .poll 1) :=
  ⟨by decide, by decide, by decide, by decide, by decide, by decide, by decide, by decide, by decide⟩
theorem inv_flushing_read : Inv (flushing 0x23 .xfer 0) :=
  ⟨by decide, by decide, by decide, by decide, by decide, by decide, by decide, by decide, by decide⟩

/-- A running command out of reset in this phase, about to take this round. -/
abbrev TakesRound (s : State) (p : Phase) (x : Sub) (isOpen : Bool) (a : Answer) (now : Word) : Prop :=
  s.busy = true ∧ s.resetAsserted = false ∧ s.phase = p ∧ s.sub = x ∧ s.linkOpen = isOpen ∧ s.inputs = [.round a now]

/-- The budget after the call of a round at this time. -/
def budgetAtCall (s : State) (now : Word) (c : Call) : Int := ((s.took [] now).call c).budget.toInt

/-- SendRound, with 7 of 8 bytes taken: a closed link, a poll, an error, too many bytes, none of them with the budget
exhausted and not, and all of them for both commands. -/
theorem witness_SendRound :
    TakesRound (given (.round (.poll .idle) 0) { sending 0x24 .poll 1 7 with linkOpen := false }) .send .poll false (.poll .idle) 0 ∧
      TakesRound (given (.round (.poll .idle) 0) (sending 0x24 .poll 1 7)) .send .poll true (.poll .idle) 0 ∧
      TakesRound (given (.round (.write (.err .io)) 0) (sending 0x24 .xfer 1 7)) .send .xfer true (.write (.err .io)) 0 ∧
      ((sending 0x24 .xfer 1 7).txBytes 7 8).length < 2 ∧ 0 < ((sending 0x24 .xfer 1 7).txBytes 7 8).length ∧
      1 = ((sending 0x24 .xfer 1 7).txBytes 7 8).length ∧ (sending 0x24 .xfer 1 7).lastOp = 0x24 ∧
      (sending 0x26 .xfer 1 7).lastOp = 0x26 ∧ budgetAtCall (sending 0x26 .xfer 1 7) 1 (.write [0x0A]) ≤ 0 ∧
      0 < budgetAtCall (sending 0x26 .xfer 1 7) 0 (.write [0x0A]) := by decide

theorem witness_ReceiveRound :
    TakesRound (given (.round (.poll .idle) 0) { receivingHeader .poll 1 with linkOpen := false }) .rxHdr .poll false
        (.poll .idle) 0 ∧
      TakesRound (given (.round (.poll .idle) 0) (receivingHeader .poll 1)) .rxHdr .poll true (.poll .idle) 0 ∧
      TakesRound (given (.round (.read (.ok [])) 0) (receivingHeader .xfer 1)) .rxHdr .xfer true (.read (.ok [])) 0 ∧
      TakesRound (given (.round (.read (.ok [0, 0, 0, 0])) 0) (receivingRest .xfer 1)) .rxRest .xfer true
        (.read (.ok [0, 0, 0, 0])) 0 ∧
      (receivingRest .xfer 1).rxNeed.toNat - (receivingRest .xfer 1).rxCount.toNat = 4 ∧
      budgetAtCall (receivingHeader .xfer 1) 1 (.read 3) ≤ 0 ∧ 0 < budgetAtCall (receivingHeader .xfer 1) 0 (.read 3) := by
  decide

theorem witness_FlushRound :
    TakesRound (given (.round (.poll .idle) 0) { flushing 0x23 .poll 1 with linkOpen := false }) .flush .poll false
        (.poll .idle) 0 ∧
      TakesRound (given (.round (.poll .idle) 0) (flushing 0x23 .poll 1)) .flush .poll true (.poll .idle) 0 ∧
      (flushing 0x23 .poll 1).lastOp = 0x23 ∧ (flushing 0x26 .poll 1).lastOp = 0x26 ∧
      budgetAtCall (flushing 0x26 .poll 1) 1 (.pollReadable 0) ≤ 0 ∧
      0 < budgetAtCall (flushing 0x26 .poll 1) 0 (.pollReadable 0) ∧
      TakesRound (given (.round (.read (.ok [])) 0) (flushing 0x23 .xfer 0)) .flush .xfer true (.read (.ok [])) 0 ∧
      (List.replicate 260 (0 : Byte)).length ≤ 260 ∧ 260 < (List.replicate 261 (0 : Byte)).length := by decide +kernel

/-- EveryRoundIsOneCallAndOneCharge, PhasesFollowTheSequence, RunningCommandKeepsItsOperands, StepKeepsTheInvariant,
NoStepFaults, BudgetRisesOnlyByLoad: a round after which the command still runs. -/
theorem witness_RunningStep :
    let s := given (.round (.poll .ready) 0) (sending 0x24 .poll 1 7)
    Inv s ∧ TakesRound s .send .poll true (.poll .ready) 0 ∧ seen (fun t => (t.busy, t.epoch)) (step s) = some (true, s.epoch) :=
  ⟨inv_sending_poll, by decide, by decide⟩

/-- WritesAndWaitingWhileIdle: no input, an offered round, and a LINK_OPEN change to a running command. -/
theorem witness_WritesAndWaitingWhileIdle :
    State.reset.busy = false ∧ State.reset.resetAsserted = false ∧ State.reset.inputs = [] ∧
      seen State.hostData (step State.reset) = some none ∧
      (given (.round (.poll .ready) 3) State.reset).inputs = [.round (.poll .ready) 3] ∧
      seen (fun t => (t.calls, t.now)) (step (given (.round (.poll .ready) 3) State.reset)) = some ([], 3) ∧
      (flushing 0x23 .poll 1).resetAsserted = false ∧
      seen (fun t => (t.linkOpen, t.busy)) (step (given (.link false) (flushing 0x23 .poll 1))) = some (false, true) := by decide

/-- NoStepFaults: an input that is admitted, one that is not, and one at an address of the window that is not. -/
theorem witness_NoStepFaults :
    Inv State.reset ∧ (Input.host 0x000 (.read .w32) 0).admitted ∧ ¬(Input.host 0x002 (.read .w32) 0).admitted ∧
      ¬(Input.bus (Config.blockBase + (0x7FF : BitVec 11).setWidth 32) (.read .w8) 0).admitted := by
  refine ⟨⟨by decide, by decide, by decide, by decide, by decide, by decide, by decide, by decide, by decide⟩, (by decide : Admitted _ _),
    (by decide : ¬Admitted _ _), fun h => ?_⟩
  exact absurd (h 0x7FF (windowOffset_blockBase_add 0x7FF)) (by decide)

/-- CompletionIsRecorded, and FailureLeavesNoFrame where the receive fails. -/
theorem witness_FailingStep :
    let s := given (.round (.read (.ok [0x00, 0x2A, 0x39, 0x9C])) 0) (receivingRest .xfer 1)
    Inv s ∧ s.busy = true ∧ s.lastOp = 0x25 ∧
      seen (fun t => (t.busy, t.epoch, t.err)) (step s) = some (false, s.epoch, .protocolError) :=
  ⟨inv_receivingRest, by decide, by decide, by decide +kernel⟩

/-- FailureLeavesNoFrame where the receive succeeds, and FramesAreValidOnlyByVerification. -/
theorem witness_SucceedingStep :
    let s := given (.round (.read (.ok [0x00, 0x2A, 0x39, 0x9B])) 0) (receivingRest .xfer 1)
    Inv s ∧ s.busy = true ∧ s.lastOp = 0x25 ∧
      seen (fun t => (t.busy, t.epoch, t.err, t.rxValid)) (step s) = some (false, s.epoch, .success, true) :=
  ⟨inv_receivingRest, by decide, by decide, by decide +kernel⟩

/-- FailureLeavesNoFrame at the accept: a frame is valid, and FRAME.VERIFY fails its range check; and one that succeeds. -/
theorem witness_FailureLeavesNoFrame_accept :
    let s : State := { put 0x300 [0x01, 0x2B, 0x40, 0x3F] (linked 0) with rxValid := true, rxPduLen := 1 }
    Idle s ∧ (0x00030022 : Word).extractLsb' 0 8 ∈ ([0x22, 0x25, 0x26] : List Byte) ∧
      seen (fun t => (t.err, t.rxValid, t.rxPduLen)) (acceptCommand 0x00030022 s) = some (.invalidOperation, false, 0) ∧
      seen (fun t => (t.err, t.rxValid, t.rxPduLen)) (acceptCommand 0x00040022 s) = some (.success, true, 1) := by
  decide +kernel

/-- StepKeepsTheStreamOrder: three of eight bytes are sent; then three bytes are received. -/
theorem witness_StreamsOk :
    StreamsOk { sending 0x24 .xfer 1 3 with txStream := [0xEE, 0x01, 0x03, 0x00] } ∧
      StreamsOk { receivingRest .xfer 1 with rxStream := [0x01, 0x03, 0x02] } ∧
      Inv { receivingRest .xfer 1 with rxStream := [0x01, 0x03, 0x02] } :=
  ⟨by constructor <;> decide, by constructor <;> decide, inv_receivingRest⟩

/-- CompletionIsRecorded: the three other ways an end phase is chosen. -/
theorem witness_CompletionIsRecorded :
    seen (fun t => (t.busy, t.err, t.detail, t.endPhase))
        (step (given (.round (.poll .idle) 1) (flushing 0x26 .poll 1))) = some (false, .timeout, 1, .send) ∧
      seen (fun t => (t.busy, t.err, t.endPhase)) (step (given (.round (.write (.ok 1)) 0) (sending 0x24 .xfer 1 7))) =
        some (false, .success, .send) ∧
      seen (fun t => (t.busy, t.err, t.detail, t.endPhase))
        (step (given (.round (.poll .idle) 0) (sending 0x24 .poll 1 7))) = some (false, .timeout, 2, .send) := by decide

/-- ResetSetsEveryValue: RESET is being asserted, it is held, it is being released, and it stays released. -/
theorem witness_ResetSetsEveryValue :
    (given (.reset true) (flushing 0x23 .poll 1)).inputs = [.reset true] ∧
      ({ flushing 0x23 .poll 1 with resetAsserted := true } : State).resetAsserted = true ∧
      seen State.busy (step { flushing 0x23 .poll 1 with resetAsserted := true }) = some false ∧
      (given (.reset false) { flushing 0x23 .poll 1 with resetAsserted := true }).inputs = [.reset false] ∧
      (flushing 0x23 .poll 1).resetAsserted = false := by decide

/-- CommandsEndWhenTimeAdvances: a budget of 1, a round in the millisecond of the one before, and the host polling STATUS. -/
theorem witness_CommandsEndWhenTimeAdvances :
    let before : List Input := [.round (.poll .ready) 0, .round (.read (.ok [])) 0, .round (.poll .ready) 1]
    let after : List Input := [.host 0x004 (.read .w32) 1, .round (.read (.ok [])) 1]
    let s : State := { flushing 0x23 .poll 1 with inputs := before ++ after }
    Inv s ∧ s.busy = true ∧ s.resetAsserted = false ∧ s.inputs = before ++ after ++ [] ∧
      (∀ x ∈ before ++ after, x.admitted ∧ x.isReset = false) ∧ s.budget.toInt ≤ chargedTime s.mark before ∧
      after.any Input.isRound = true ∧ seen (fun t => (t.busy, t.err, t.detail)) (runSteps 5 s) = some (false, .busy, 1) :=
  ⟨inv_flushing_flush, by decide, by decide, by decide, by simp [Input.admitted, Input.isReset, Admitted, Access.width],
    by decide, by decide, by decide⟩

/-- TransactionSucceeds: the longest PDU, an answer of 7 bytes, and one millisecond left. -/
theorem witness_TransactionSucceeds :
    let answer : List Byte := [0x01, 0x03, 0x02, 0x00, 0x2A]
    let s : State := { linked 41 with inputs := [
      commandInput 0 (.frameXact 253), .round (.poll .idle) 1, .round (.poll .ready) 2, .round (.write (.ok 256)) 10,
      .round (.poll .ready) 20, .round (.read (.ok [0x01, 0x03, 0x02])) 30, .round (.poll .ready) 31,
      .round (.read (.ok ([0x00, 0x2A] ++ [0x39, 0x9B]))) 40] }
    Idle s ∧ s.resetAsserted = false ∧ s.linkOpen = true ∧ (1 ≤ (253 : Half).toNat ∧ (253 : Half).toNat ≤ 253) ∧
      findPduLength 0x03 0x02 = .ok ([(0x00 : Byte), 0x2A].length + 2) ∧ (253 : Half).toNat + 3 = 256 ∧
      (elapsedThrough s.mark [1, 2, 10, 20, 30, 31, 40] : Int) < s.budget.toInt ∧
      [(crc16 answer).extractLsb' 0 8, (crc16 answer).extractLsb' 8 8] = [0x39, 0x9B] := by decide +kernel

end Sys2Proof.Tests
end

section
/-! SUPPORT. What one step can do, said once: the cases of a step, of an accepted command word, of a round and of a host write.
Every claim about all steps is a case analysis over these. -/

namespace Sys2Proof.Machine

/-! ### The cases of a step -/

/-- Nothing of the block but COLL differs, and of the rest only what the outside world drives or is given back. -/
def Passed (s t : State) : Prop :=
  t = { s with coll := t.coll, linkOpen := t.linkOpen, now := t.now, inputs := t.inputs, hostData := t.hostData }

/-- What the step from `s` to `t` was. -/
inductive StepCase (s t : State) : Prop
  /-- RESET was asserted, held or released (R260). -/
  | reset (he : t.epoch = s.epoch + 1) (hv : AtResetValues t)
  /-- Nothing ran: a read, a dropped write, an access elsewhere, a LINK_OPEN change, or an idle block that waits. -/
  | pass (h : Passed s t)
  /-- A host write was taken by the idle block (R65). -/
  | write (off : BitVec 11) (w : Width) (tgt : Target) (v now : Word) (rest : List Input) (hb : s.busy = false)
      (ht : targetAt off w = some tgt) (h : writeTarget tgt v (s.took rest now) = .next t)
  /-- The running command took its round (R188). -/
  | round (a : Option Answer) (now : Word) (rest : List Input) (hb : s.busy = true)
      (h : blockRound a (s.took rest now) = .next t)

theorem atResetValues_resetBlock (s : State) : AtResetValues s.resetBlock := by simp [AtResetValues]

/-- A host access during RESET leaves the reset values (R260). -/
theorem stepCase_of_hostAccessInReset {s t : State} {off : BitVec 11} {x : Access} {now : Word} {rest : List Input}
    (h : hostAccessInReset off x (s.took rest now) = .next t) : StepCase s t := by
  cases x <;> simp only [hostAccessInReset] at h <;> split at h <;> cases h <;>
    exact .reset rfl (atResetValues_resetBlock (s.took rest now))

/-- A host access gives a value back, is dropped, or is a write that the idle block takes (R63, R65, R271). -/
theorem stepCase_of_hostAccess {s t : State} {off : BitVec 11} {x : Access} {now : Word} {rest : List Input}
    (h : hostAccess off x (s.took rest now) = .next t) : StepCase s t := by
  cases x with
  | read w =>
    simp only [hostAccess] at h
    split at h <;> cases h
    exact .pass rfl
  | write w v =>
    simp only [hostAccess] at h
    split at h
    · cases h
    · next tgt htgt =>
      split at h
      · cases h; exact .pass rfl
      · next hb => exact .write off w tgt v now rest (Bool.eq_false_iff.mpr hb) htgt h

/-- What taking one input can do. -/
theorem stepCase_of_takeInput {s t : State} {x : Input} {rest : List Input} (h : takeInput x (s.setInputs rest) = .next t) :
    StepCase s t := by
  cases x with
  | host off a now =>
    simp only [takeInput] at h
    split at h
    · exact stepCase_of_hostAccessInReset (now := now) (rest := rest) h
    · exact stepCase_of_hostAccess (now := now) (rest := rest) h
  | bus addr a now =>
    simp only [takeInput] at h
    split at h <;> split at h
    · cases h; exact .reset rfl (atResetValues_resetBlock _)
    · cases h; exact .pass rfl
    · exact stepCase_of_hostAccessInReset (now := now) (rest := rest) h
    · exact stepCase_of_hostAccess (now := now) (rest := rest) h
  | round a now =>
    simp only [takeInput, blockStep] at h
    split at h
    · cases h; exact .reset rfl (atResetValues_resetBlock _)
    · split at h
      · next hb => exact .round (some a) now rest hb h
      · cases h; exact .pass rfl
  | link isOpen =>
    simp only [takeInput] at h
    split at h <;> cases h
    · exact .reset rfl (atResetValues_resetBlock _)
    · exact .pass rfl
  | reset asserted =>
    simp only [takeInput] at h
    split at h <;> cases h
    · exact .reset rfl (atResetValues_resetBlock (s.setInputs rest))
    · exact .pass rfl

/-- Every step is one of the cases. -/
theorem step_cases {s t : State} (h : step s = .next t) : StepCase s t := by
  unfold step at h
  split at h
  · unfold quietStep at h
    split at h
    · cases h; exact .reset rfl (atResetValues_resetBlock s)
    · split at h
      · next hb => exact .round none (Config.freeNow s.draws) s.inputs hb h
      · cases h; exact .pass rfl
  · exact stepCase_of_takeInput h

/-! ### The cases of an accepted command word -/

/-- What the accept of a command word on `u` leaves: how the command ended, or the phase it entered (R233, R235, R176). -/
inductive AcceptCase (u : State) : State → Prop
  /-- an illegal word, an illegal length, a closed link, or no ADU to send -/
  | failed (op : Byte) {k : ErrKind} {d : Byte} (hk : (k, d) ∈ statusPairs) : AcceptCase u ((u.accept op).finish k d)
  | crc (op : Byte) (c : Half) : AcceptCase u ((u.accept op).setCrc c).finishOk
  | load : AcceptCase u (u.accept Opcode.budgetLoad).loadBudget.finishOk
  | charge : AcceptCase u (u.accept Opcode.budgetCharge).charge.finishOk
  | build {n : Nat} (hn : 1 ≤ n ∧ n ≤ Config.pduMax) : AcceptCase u ((u.accept Opcode.frameBuild).buildAdu n).finishOk
  | pdulen (r : Word) {k : ErrKind} {d : Byte} (hk : (k, d) ∈ statusPairs) :
      AcceptCase u (((u.accept Opcode.framePdulen).setResult r).finish k d)
  | verify {n : Nat} (hn : 4 ≤ n ∧ n ≤ 256) :
      AcceptCase u (((u.accept Opcode.frameVerify).dropFrame.setRxNeed n).verify n)
  | flush : AcceptCase u ((u.accept Opcode.frameFlush).setBusy.enter .flush)
  | send (hl : u.txLen ≠ 0) : AcceptCase u ((u.accept Opcode.frameSend).setBusy.enter .send)
  | recv : AcceptCase u ((u.accept Opcode.frameRecv).dropFrame.setBusy.enter .rxHdr)
  | xact {n : Nat} (hn : 1 ≤ n ∧ n ≤ Config.pduMax) :
      AcceptCase u (((u.accept Opcode.frameXact).buildAdu n).dropFrame.setBusy.enter .flush)

/-- The instructions that a host writes to CMD (R112). -/
inductive IsCommand : Instr → Prop
  | crcInit : IsCommand .crcInit
  | crcByte (b : Byte) : IsCommand (.crcByte b)
  | crcTxbuf (n : Half) : IsCommand (.crcTxbuf n)
  | crcRxbuf (n : Half) : IsCommand (.crcRxbuf n)
  | budgetLoad : IsCommand .budgetLoad
  | budgetCharge : IsCommand .budgetCharge
  | frameBuild (n : Half) : IsCommand (.frameBuild n)
  | framePdulen (fc bc : Byte) : IsCommand (.framePdulen fc bc)
  | frameVerify (n : Half) : IsCommand (.frameVerify n)
  | frameFlush : IsCommand .frameFlush
  | frameSend : IsCommand .frameSend
  | frameRecv : IsCommand .frameRecv
  | frameXact (n : Half) : IsCommand (.frameXact n)

theorem eq_of_ifReservedZero {zero : Bool} {i j : Instr} (h : ifReservedZero zero j = .ok i) : j = i := by
  cases zero <;> cases h
  rfl

/-- A choice of two decodings gives a command when each does. -/
theorem isCommand_of_ite {c : Prop} [Decidable c] {x y : Except DecodeError Instr} {i : Instr}
    (hx : x = .ok i → IsCommand i) (hy : y = .ok i → IsCommand i) (h : (if c then x else y) = .ok i) : IsCommand i := by
  split at h
  exacts [hx h, hy h]

/-- A command word decodes to a command (R112). -/
theorem isCommand_of_decode {w : Word} {i : Instr} : decode (.command w) = .ok i → IsCommand i :=
  isCommand_of_ite (fun h => eq_of_ifReservedZero h ▸ .crcInit) <|
  isCommand_of_ite (fun h => eq_of_ifReservedZero h ▸ .crcByte _) <|
  isCommand_of_ite (fun h => eq_of_ifReservedZero h ▸ .crcTxbuf _) <|
  isCommand_of_ite (fun h => eq_of_ifReservedZero h ▸ .crcRxbuf _) <|
  isCommand_of_ite (fun h => eq_of_ifReservedZero h ▸ .budgetLoad) <|
  isCommand_of_ite (fun h => eq_of_ifReservedZero h ▸ .budgetCharge) <|
  isCommand_of_ite (fun h => eq_of_ifReservedZero h ▸ .frameBuild _) <|
  isCommand_of_ite (fun h => eq_of_ifReservedZero h ▸ .framePdulen _ _) <|
  isCommand_of_ite (fun h => eq_of_ifReservedZero h ▸ .frameVerify _) <|
  isCommand_of_ite (fun h => eq_of_ifReservedZero h ▸ .frameFlush) <|
  isCommand_of_ite (fun h => eq_of_ifReservedZero h ▸ .frameSend) <|
  isCommand_of_ite (fun h => eq_of_ifReservedZero h ▸ .frameRecv) <|
  isCommand_of_ite (fun h => eq_of_ifReservedZero h ▸ .frameXact _) nofun

/-- What an N16 check leaves: its error, or the body on a legal length (R113). -/
theorem withLength_cases (lo hi : Nat) (n : Half) (s : State) (body : Nat → State → State) :
    withLength lo hi n s body = s.finish .invalidOperation 3 ∨
      (lo ≤ n.toNat ∧ n.toNat ≤ hi) ∧ withLength lo hi n s body = body n.toNat s := by
  unfold withLength; split <;> simp_all

/-- What a link check leaves: its error, or the body (R170). -/
theorem withLink_cases (s : State) (body : State → State) :
    withLink s body = s.finish .invalidOperation 4 ∨ withLink s body = body s := by
  unfold withLink; split <;> simp

/-- What the check of TX_LEN leaves: its error, or the body on an ADU that was built (R170). -/
theorem withAdu_cases (s : State) (body : State → State) :
    withAdu s body = s.finish .invalidOperation 5 ∨ s.txLen ≠ 0 ∧ withAdu s body = body s := by
  unfold withAdu; split <;> simp_all

/-- The accept of a word is one of the cases. -/
theorem acceptCommand_cases {w : Word} {u t : State} (h : acceptCommand w u = .next t) : AcceptCase u t := by
  unfold acceptCommand at h
  split at h
  · next i hi =>
    cases isCommand_of_decode hi with
    | crcInit => cases h; exact .crc _ _
    | crcByte b => cases h; exact .crc _ _
    | crcTxbuf n =>
      cases h
      obtain e | ⟨-, e⟩ := withLength_cases 0 Config.aduMax n (u.accept Opcode.crcTxbuf) _ <;> rw [e]
      exacts [.failed _ (by decide), .crc _ _]
    | crcRxbuf n =>
      cases h
      obtain e | ⟨-, e⟩ := withLength_cases 0 Config.aduMax n (u.accept Opcode.crcRxbuf) _ <;> rw [e]
      exacts [.failed _ (by decide), .crc _ _]
    | budgetLoad => cases h; exact .load
    | budgetCharge => cases h; exact .charge
    | frameBuild n =>
      cases h
      obtain e | ⟨hn, e⟩ := withLength_cases 1 Config.pduMax n (u.accept Opcode.frameBuild) _ <;> rw [e]
      exacts [.failed _ (by decide), .build hn]
    | framePdulen fc bc =>
      simp only [exec, execFramePdulen] at h
      split at h <;> cases h <;> exact .pdulen _ (by decide)
    | frameVerify n =>
      cases h
      obtain e | ⟨hn, e⟩ := withLength_cases 4 256 n (u.accept Opcode.frameVerify) _ <;> rw [e]
      exacts [.failed _ (by decide), .verify hn]
    | frameFlush =>
      cases h
      obtain e | e := withLink_cases (u.accept Opcode.frameFlush) _ <;> rw [e]
      exacts [.failed _ (by decide), .flush]
    | frameSend =>
      cases h
      obtain e | e := withLink_cases (u.accept Opcode.frameSend) _ <;> rw [e]
      · exact .failed _ (by decide)
      · obtain e | ⟨hl, e⟩ := withAdu_cases (u.accept Opcode.frameSend) _ <;> rw [e]
        exacts [.failed _ (by decide), .send hl]
    | frameRecv =>
      cases h
      obtain e | e := withLink_cases (u.accept Opcode.frameRecv) _ <;> rw [e]
      exacts [.failed _ (by decide), .recv]
    | frameXact n =>
      cases h
      obtain e | ⟨hn, e⟩ := withLength_cases 1 Config.pduMax n (u.accept Opcode.frameXact) _ <;> rw [e]
      · exact .failed _ (by decide)
      · obtain e | e := withLink_cases (u.accept Opcode.frameXact) _ <;> rw [e]
        exacts [.failed _ (by decide), .xact hn]
  · next e he =>
    cases h
    cases e <;> exact .failed _ (by decide)

/-! ### The cases of a round -/

/-- What the call of a round and its transfer leave of `u`, before the round decides how it goes on (R177 to R179). -/
inductive Worked (u : State) : State → Prop
  | closed : Worked u u
  | called (c : Call) : Worked u (u.call c)
  | delivered (c : Call) (bytes : List Byte) : Worked u ((u.call c).deliver bytes)
  | flushed (c : Call) (bytes : List Byte) : Worked u (((u.call c).deliver bytes).addFlushCount bytes.length)
  | sent (c : Call) (k : Nat) (hp : u.phase = .send) (hlt : u.txWritten < u.txLen)
      (hk : k ≤ u.txLen.toNat - u.txWritten.toNat) :
      Worked u ((u.call c).transmit (u.txBytes u.txWritten.toNat u.txLen.toNat) k)
  | received (c : Call) (bytes : List Byte) (hp : u.phase = .rxHdr ∨ u.phase = .rxRest) (hlt : u.rxCount < u.rxNeed)
      (hk : bytes.length ≤ u.rxNeed.toNat - u.rxCount.toNat) : Worked u (((u.call c).deliver bytes).receive bytes)

/-- The errors that end a running command in the phase it runs (R231). -/
def roundErrors : List (ErrKind × Byte) :=
  [(.ioError, 1), (.ioError, 2), (.linkBroken, 1), (.linkBroken, 2), (.linkBroken, 3), (.protocolError, 1),
   (.protocolError, 2), (.timeout, 2), (.timeout, 3), (.internalError, 1), (.busy, 1)]

/-- What a round on `u` leaves (R177 to R179, R183, R187). -/
inductive RoundCase (u : State) : State → Prop
  | failed {v : State} (hv : Worked u v) {k : ErrKind} {d : Byte} (hk : (k, d) ∈ roundErrors) : RoundCase u (v.finish k d)
  | succeeded {v : State} (hv : Worked u v) (hp : u.phase = .flush ∨ u.phase = .send) : RoundCase u v.finishOk
  /-- the poll answered Ready -/
  | ready (c : Call) : RoundCase u ((u.call c).setSub .xfer)
  /-- the transfer left the phase incomplete, with budget to go on -/
  | again {v : State} (hv : Worked u v) (hb : v.exhausted = false) (hs : u.phase = .send → v.txWritten ≠ v.txLen)
      (hr : u.phase = .rxHdr ∨ u.phase = .rxRest → v.rxCount ≠ v.rxNeed) : RoundCase u (v.setSub .poll)
  | toSend {v : State} (hv : Worked u v) (hp : u.phase = .flush) (ho : u.lastOp = Opcode.frameXact) :
      RoundCase u (v.enter .send)
  | toHeader {v : State} (hv : Worked u v) (hp : u.phase = .send) (ho : u.lastOp = Opcode.frameXact) :
      RoundCase u (v.enter .rxHdr)
  | toRest {v : State} (hv : Worked u v) (hp : u.phase = .rxHdr) (hc : v.rxCount = v.rxNeed) {l : Nat}
      (hl : 2 ≤ l ∧ l ≤ 253) : RoundCase u ((v.setRxNeed (l + 3)).enter .rxRest)
  | verified {v : State} (hv : Worked u v) (hp : u.phase = .rxRest) : RoundCase u (v.verify v.rxNeed.toNat)

theorem linkError_mem_roundErrors (e : LinkError) :
    (LinkError.kind e, 1) ∈ roundErrors ∧ (LinkError.kind e, 2) ∈ roundErrors := by
  cases e <;> decide

/-- A poll ends the command on an error, begins the transfer on Ready, and leaves Idle to the phase (R177 to R179). -/
theorem pollRound_cases {c : Call} {a : Option Answer} {u t : State} {onIdle : State → Result}
    (h : pollRound c a u onIdle = .next t) : RoundCase u t ∨ onIdle (u.call c) = .next t := by
  simp only [pollRound] at h
  split at h
  · next e _ => cases h; exact .inl (.failed (.called c) (linkError_mem_roundErrors e).1)
  · exact .inr h
  · cases h; exact .inl (.ready c)

/-- The end of a header ends the command, or enters RX_REST with a length in its range (R183). -/
theorem roundCase_of_headerEnd {u v : State} (hv : Worked u v) (hp : u.phase = .rxHdr) (hc : v.rxCount = v.rxNeed)
    (fc bc : Byte) : RoundCase u (headerEnd (findPduLength fc bc) v) := by
  cases hl : findPduLength fc bc with
  | ok l => exact .toRest hv hp hc (findPduLength_range hl)
  | unsupported => exact .failed hv (by decide)
  | outOfRange => exact .failed hv (by decide)

/-- An incomplete transfer ends on an exhausted budget, else the next poll follows (R177, R178). -/
theorem roundCase_of_incomplete {u v t : State} (hv : Worked u v) (hs : u.phase = .send → v.txWritten ≠ v.txLen)
    (hr : u.phase = .rxHdr ∨ u.phase = .rxRest → v.rxCount ≠ v.rxNeed)
    (h : (if v.exhausted = true then (.next (v.finish .timeout 3) : Result) else .next (v.setSub .poll)) = .next t) :
    RoundCase u t := by
  split at h <;> cases h
  · exact .failed hv (by decide)
  · next hb => exact .again hv (Bool.eq_false_iff.mpr hb) hs hr

/-- What a SEND round leaves (R177). -/
theorem sendRound_cases {a : Option Answer} {u t : State} (hp : u.phase = .send) (h : sendRound a u = .next t) :
    RoundCase u t := by
  unfold sendRound at h
  split at h
  · obtain h | h := pollRound_cases h
    · exact h
    · cases h; exact .failed (.called _) (by decide)
  · split at h
    · next hlt =>
      dsimp only at h
      split at h
      · next e _ => cases h; exact .failed (.called _) (linkError_mem_roundErrors e).2
      · next k _ =>
        split at h
        · cases h; exact .failed (.called _) (by decide)
        · next hk =>
          rw [txBytes_length, not_lt] at hk
          have hv := Worked.sent (.write (u.txBytes u.txWritten.toNat u.txLen.toNat)) k hp hlt.1 hk
          unfold afterTransfer at h
          split at h
          · simp only [phaseDone] at h
            split at h
            · cases h; exact .succeeded hv (.inr hp)
            · split at h
              · next ho => cases h; exact .toHeader hv hp ho
              · cases h
          · next hne =>
            exact roundCase_of_incomplete hv (fun _ e => hne (beq_iff_eq.mpr e)) (by simp [hp]) h
    · cases h

/-- What a receive round leaves (R178). -/
theorem recvRound_cases {a : Option Answer} {u t : State} (hp : u.phase = .rxHdr ∨ u.phase = .rxRest)
    (h : recvRound a u = .next t) : RoundCase u t := by
  unfold recvRound at h
  split at h
  · obtain h | h := pollRound_cases h
    · exact h
    · cases h; exact .failed (.called _) (by decide)
  · split at h
    · next hlt =>
      dsimp only at h
      split at h
      · next e _ => cases h; exact .failed (.called _) (linkError_mem_roundErrors e).2
      · next bytes _ =>
        split at h
        · cases h; exact .failed (.delivered _ _) (by decide)
        · next hk =>
          have hv := Worked.received (.read (u.rxNeed.toNat - u.rxCount.toNat)) bytes hp hlt.1 (not_lt.mp hk)
          unfold afterTransfer at h
          split at h
          · next hc =>
            rcases hp with hp | hp <;> simp only [receive_phase, deliver_phase, call_phase, hp, phaseDone] at h
            · rw [exec_decodeHeader] at h
              cases h
              exact roundCase_of_headerEnd hv hp (beq_iff_eq.mp hc) _ _
            · cases h; exact .verified hv hp
          · next hne =>
            exact roundCase_of_incomplete hv (by rcases hp with hp | hp <;> simp [hp])
              (fun _ e => hne (beq_iff_eq.mpr e)) h
    · cases h

/-- What a flush round leaves (R179). -/
theorem flushRound_cases {a : Option Answer} {u t : State} (hp : u.phase = .flush) (h : flushRound a u = .next t) :
    RoundCase u t := by
  unfold flushRound at h
  split at h
  · obtain h | h := pollRound_cases h
    · exact h
    · simp only [phaseDone] at h
      split at h
      · cases h; exact .succeeded (.called _) (.inl hp)
      · split at h
        · next ho => cases h; exact .toSend (.called _) hp ho
        · cases h
  · dsimp only at h
    split at h
    · next e _ => cases h; exact .failed (.called _) (linkError_mem_roundErrors e).2
    · next bytes _ =>
      split at h
      · cases h; exact .failed (.delivered _ _) (by decide)
      · split at h <;> cases h
        · exact .failed (.flushed _ _) (by decide)
        · next hb => exact .again (.flushed _ _) (Bool.eq_false_iff.mpr hb) (by simp [hp]) (by simp [hp])

/-- Every round of a running command is one of the cases. -/
theorem blockRound_cases {a : Option Answer} {u t : State} (h : blockRound a u = .next t) : RoundCase u t := by
  have closed : RoundCase u (u.finish .linkBroken 3) := .failed .closed (by decide)
  unfold blockRound at h
  split at h
  · next hp =>
    split at h
    · exact flushRound_cases hp h
    · cases h; exact closed
  · next hp =>
    split at h
    · exact sendRound_cases hp h
    · cases h; exact closed
  · next hp =>
    split at h
    · exact recvRound_cases (.inl hp) h
    · cases h; exact closed
  · next hp =>
    split at h
    · exact recvRound_cases (.inr hp) h
    · cases h; exact closed
  · cases h
  · cases h

/-! ### The cases of a host write -/

/-- What a host write to the idle block leaves (R65, R21, R52). -/
inductive WriteCase (u t : State) : Prop
  | command (h : AcceptCase u t)
  | register (h : t = { u with arg := t.arg, slave := t.slave, flushPollMs := t.flushPollMs })
  | txByte (i : Nat) (b : Byte) (hi : i < Config.aduMax) (h : t = u.setByte (Config.txBase + i) b)
  | rxByte (i : Nat) (b : Byte) (hi : i < Config.aduMax) (h : t = { u.setByte (Config.rxBase + i) b with rxValid := false })

/-- The byte targets lie in their buffer (R60). -/
theorem targetAt_byte {off : BitVec 11} {w : Width} {i : Nat}
    (h : targetAt off w = some (.txByte i) ∨ targetAt off w = some (.rxByte i)) : i < Config.aduMax := by
  unfold targetAt at h
  dsimp only at h
  split at h
  · split at h <;> simp at h
  · split at h
    · next hw =>
      simp only [inTxWindow, Bool.and_eq_true, decide_eq_true_eq] at hw
      split at h <;> simp at h
      omega
    · split at h
      · next hw =>
        simp only [inRxWindow, Bool.and_eq_true, decide_eq_true_eq] at hw
        split at h <;> simp at h
        omega
      · simp at h

/-- Every host write the idle block takes is one of the cases. -/
theorem writeTarget_cases {off : BitVec 11} {w : Width} {tgt : Target} {v : Word} {u t : State}
    (ht : targetAt off w = some tgt) (h : writeTarget tgt v u = .next t) : WriteCase u t := by
  cases tgt with
  | register r =>
    cases r with
    | cmd => exact .command (acceptCommand_cases h)
    | _ => cases h; exact .register rfl
  | txByte i => cases h; exact .txByte i _ (targetAt_byte (.inl ht)) rfl
  | rxByte i => cases h; exact .rxByte i _ (targetAt_byte (.inr ht)) rfl

/-! ### What a round's work leaves alone -/

theorem receive_eq (s : State) (bytes : List Byte) :
    s.receive bytes = { s with mem := (s.receive bytes).mem, rxCount := (s.receive bytes).rxCount } := by
  unfold State.receive
  rw [storeRx_eq]
  rfl

/-- The call and the transfer of a round change the budget, the counters, the streams and RXBUF, and nothing else. -/
theorem Worked.eq {u v : State} (hv : Worked u v) :
    v = { u with
      budget := v.budget, mark := v.mark, calls := v.calls, draws := v.draws, txWritten := v.txWritten,
      txStream := v.txStream, rxStream := v.rxStream, rxCount := v.rxCount, mem := v.mem, flushCount := v.flushCount } := by
  cases hv with
  | received c bytes => rw [receive_eq]; rfl
  | _ => rfl

theorem Worked.phase {u v : State} (hv : Worked u v) : v.phase = u.phase := by rw [hv.eq]
theorem Worked.lastOp {u v : State} (hv : Worked u v) : v.lastOp = u.lastOp := by rw [hv.eq]
theorem Worked.busy {u v : State} (hv : Worked u v) : v.busy = u.busy := by rw [hv.eq]
theorem Worked.coll {u v : State} (hv : Worked u v) : v.coll = u.coll := by rw [hv.eq]
theorem Worked.epoch {u v : State} (hv : Worked u v) : v.epoch = u.epoch := by rw [hv.eq]
theorem Worked.txLen {u v : State} (hv : Worked u v) : v.txLen = u.txLen := by rw [hv.eq]
theorem Worked.rxNeed {u v : State} (hv : Worked u v) : v.rxNeed = u.rxNeed := by rw [hv.eq]
theorem Worked.rxValid {u v : State} (hv : Worked u v) : v.rxValid = u.rxValid := by rw [hv.eq]
theorem Worked.rxPduLen {u v : State} (hv : Worked u v) : v.rxPduLen = u.rxPduLen := by rw [hv.eq]

/-- A round's charge lowers the budget or keeps it, and nothing else of the round touches it (R151, R158). -/
theorem Worked.budget_le {u v : State} (hv : Worked u v) : v.budget.toInt ≤ u.budget.toInt := by
  have charged (c : Call) : (u.call c).budget.toInt ≤ u.budget.toInt := (toInt_call u c).trans_le (budgetAfter_le u _)
  cases hv with
  | closed => exact le_rfl
  | called c => exact charged c
  | delivered c => exact charged c
  | flushed c => exact charged c
  | sent c => exact charged c
  | received c bytes => rw [receive_budget]; exact charged c

end Sys2Proof.Machine
end

section
/-! SUPPORT. No step raises the budget but BUDGET.LOAD and a reset (spec/10_state.md R35). -/

namespace Sys2Proof.Machine

theorem enter_budget (s : State) (p : Phase) : (s.enter p).budget = s.budget := (enter_frame s p).2.1

theorem verify_budget (s : State) (n : Nat) : (s.verify n).budget = s.budget := by
  obtain ⟨-, -, -, -, -, -, -, -, -, hb, -⟩ := verify_frame s n
  exact hb

theorem RoundCase.budget_le {u t : State} (h : RoundCase u t) : t.budget.toInt ≤ u.budget.toInt := by
  cases h with
  | failed hv => exact hv.budget_le
  | succeeded hv => exact hv.budget_le
  | ready c => exact (Worked.called c).budget_le
  | again hv => exact hv.budget_le
  | toSend hv => rw [enter_budget]; exact hv.budget_le
  | toHeader hv => rw [enter_budget]; exact hv.budget_le
  | toRest hv => rw [enter_budget]; exact hv.budget_le
  | verified hv => rw [verify_budget]; exact hv.budget_le

theorem AcceptCase.budget_le {u t : State} (h : AcceptCase u t) :
    t.budget.toInt ≤ u.budget.toInt ∨ (t.lastOp = Opcode.budgetLoad ∧ t.budget = u.arg ∧ t.mark = t.now) := by
  cases h with
  | load => exact .inr ⟨rfl, rfl, rfl⟩
  | charge => exact .inl ((toInt_charge _).trans_le (budgetAfter_le _ _))
  | failed op => exact .inl le_rfl
  | crc op c => exact .inl le_rfl
  | build => left; simp
  | pdulen => exact .inl le_rfl
  | verify => left; rw [verify_budget]; exact le_rfl
  | flush => left; rw [enter_budget]; exact le_rfl
  | send => left; rw [enter_budget]; exact le_rfl
  | recv => left; rw [enter_budget]; exact le_rfl
  | xact => left; rw [enter_budget]; simp

/-- Settles O36: a case analysis over what the step was; only the accept of BUDGET.LOAD writes BUDGET upwards. -/
theorem budgetRisesOnlyByLoad : Obligations.BudgetRisesOnlyByLoad := by
  intro s t h
  cases step_cases h with
  | reset he => exact .inr (.inr he)
  | pass hp => exact .inl (congrArg (·.budget.toInt) hp).le
  | round a now rest hb h => exact .inl (blockRound_cases h).budget_le
  | write off w tgt v now rest hb ht h =>
    cases writeTarget_cases ht h with
    | command h =>
      obtain h | h := h.budget_le
      exacts [.inl h, .inr (.inl h)]
    | register h => exact .inl (congrArg (·.budget.toInt) h).le
    | txByte i b hi h => exact .inl (congrArg (·.budget.toInt) h).le
    | rxByte i b hi h => exact .inl (congrArg (·.budget.toInt) h).le

end Sys2Proof.Machine
end

section
/-! SUPPORT. The invariant of the block holds after reset, and every step keeps it. -/

namespace Sys2Proof.Machine

theorem inv_of_atResetValues {s : State} (h : AtResetValues s) : Inv s := by
  obtain ⟨busy, done, -, rxValid, err, endPhase, detail, -, -, -, -, -, -, -, txLen, txWritten, rxCount, rxNeed, rxPduLen, -,
    -, phase, sub, mem⟩ := h
  exact ⟨⟨by simp [busy, phase], by simp [phase], fun _ => sub⟩, ⟨by simp [phase], by simp [phase], by simp [phase]⟩,
    ⟨fun _ => ⟨done, err, detail, endPhase⟩, by rw [err, detail]; decide⟩,
    ⟨.inl txLen, by simp [txLen], by simp [txWritten], by simp [phase], by simp [phase]⟩,
    ⟨by simp [rxNeed], by simp [rxCount], by simp [phase], by simp [phase]⟩, fun _ => ⟨rxValid, rxPduLen⟩,
    ⟨by simp [rxPduLen], by simp [rxValid]⟩, by simp [busy], by rw [MemoryOk, mem]; rfl⟩

/-- Settles O52: the state after reset holds the reset values, and no frame is on the way. -/
theorem resetMeetsTheInvariant : Obligations.ResetMeetsTheInvariant :=
  ⟨inv_of_atResetValues (by simp [AtResetValues, State.reset]), by simp [StreamsOk, State.reset]⟩

theorem Inv.passed {s t : State} (hi : Inv s) (h : Passed s t) : Inv t := by
  rw [h]; exact hi

/-! ### Host writes -/

/-- A write to a byte of TXBUF leaves RXBUF alone (R67). -/
theorem rx_setByte_tx (s : State) {i : Nat} (hi : i < Config.aduMax) (b : Byte) (k : Nat) :
    (s.setByte (Config.txBase + i) b).rx k = s.rx k :=
  byteAt_setByte_other s b (by simp only [Config.aduMax, Config.txBase, Config.rxBase] at *; omega)

theorem rxCrcMatches_congr {s t : State} (h : ∀ k, t.rx k = s.rx k) (n : Nat) : t.rxCrcMatches n = s.rxCrcMatches n := by
  simp only [State.rxCrcMatches, rxBytes_congr fun k _ _ => h k, h]

/-- RXBUF reads the same in two states with the same buffers and the same draw. -/
theorem rx_congr {s t : State} (hm : t.mem = s.mem) (he : t.epoch = s.epoch) (k : Nat) : t.rx k = s.rx k :=
  byteAt_congr hm he _

theorem tx_in_window {i : Nat} (hi : i < Config.aduMax) :
    (inTxWindow (Config.txBase + i) || inRxWindow (Config.txBase + i)) = true := by
  simp [inTxWindow, hi]

theorem rx_in_window {i : Nat} (hi : i < Config.aduMax) :
    (inTxWindow (Config.rxBase + i) || inRxWindow (Config.rxBase + i)) = true := by
  simp [inRxWindow, hi]

theorem Inv.txByte {s : State} (h : Inv s) {i : Nat} (hi : i < Config.aduMax) (b : Byte) :
    Inv (s.setByte (Config.txBase + i) b) := by
  obtain ⟨hphase, hseq, hstat, htx, hrx, hrecv, ⟨hlen, hvalid⟩, hbud, hmem⟩ := h
  refine ⟨hphase, hseq, hstat, htx, hrx, hrecv, ⟨hlen, fun hv => ?_⟩, hbud, Memory.wf_write b (tx_in_window hi) hmem⟩
  rw [rxCrcMatches_congr (rx_setByte_tx s hi b)]
  exact hvalid hv

theorem Inv.rxByte {s : State} (h : Inv s) {i : Nat} (hi : i < Config.aduMax) (b : Byte) :
    Inv { s.setByte (Config.rxBase + i) b with rxValid := false } := by
  obtain ⟨hphase, hseq, hstat, htx, hrx, hrecv, ⟨hlen, -⟩, hbud, hmem⟩ := h
  exact ⟨hphase, hseq, hstat, htx, hrx, fun hr => ⟨rfl, (hrecv hr).2⟩, ⟨hlen, by simp⟩, hbud,
    Memory.wf_write b (rx_in_window hi) hmem⟩

/-- The accept of a phase command on an idle block leaves it running once BUSY is set (R24, R233). -/
theorem running_setBusy_accept (u : State) (op : Byte) : Running (u.accept op).setBusy := ⟨rfl, rfl, rfl, rfl, rfl⟩

theorem toNat_txLen_buildAdu (s : State) {n : Nat} (hn : n ≤ Config.pduMax) : (s.buildAdu n).txLen.toNat = n + 3 := by
  have hn : n ≤ 253 := hn
  rw [buildAdu_txLen, BitVec.toNat_ofNat, Nat.mod_eq_of_lt (by omega)]

theorem settled_dropFrame {s : State} (hs : Settled s) : Settled s.dropFrame := by
  obtain ⟨htx0, htx, hwr, hneed, hcount, -, hmem⟩ := hs
  exact ⟨htx0, htx, hwr, hneed, hcount, ⟨by simp, by simp⟩, hmem⟩

theorem settled_setBusy {s : State} (hs : Settled s) : Settled s.setBusy := hs

theorem settled_setRxNeed {s : State} (hs : Settled s) {n : Nat} (hn : n ≤ 256) : Settled (s.setRxNeed n) := by
  obtain ⟨htx0, htx, hwr, -, hcount, hframe, hmem⟩ := hs
  exact ⟨htx0, htx, hwr, by rw [setRxNeed_rxNeed, BitVec.toNat_ofNat]; omega, hcount, hframe, hmem⟩

/-- FRAME.XACT, its ADU built, enters FLUSH with no verified frame (R186). -/
theorem inv_enter_flush_of_xact {v : State} (hs : Settled v)
    (hc : v.done = false ∧ v.err = .success ∧ v.detail = 0 ∧ v.endPhase = .idle) (ho : v.lastOp = Opcode.frameXact)
    (hfour : 4 ≤ v.txLen.toNat) : Inv (v.dropFrame.setBusy.enter .flush) :=
  inv_enter (settled_setBusy (settled_dropFrame hs)) ⟨rfl, hc⟩ (fun _ => ⟨rfl, rfl⟩) (by decide)
    ⟨fun _ => .inr ho, nofun, by rintro (h | h) <;> cases h⟩ nofun (fun _ _ => hfour) nofun

theorem AcceptCase.inv {u t : State} (h : AcceptCase u t) (hs : Settled u) : Inv t := by
  have accepted (op : Byte) : Settled (u.accept op) := settled_accept hs op
  cases h with
  | failed op hk => exact inv_finish (accepted op) hk
  | crc op c => exact inv_finish (accepted op) (by decide)
  | load => exact inv_finish (accepted _) (by decide)
  | charge => exact inv_finish (accepted _) (by decide)
  | build hn => exact inv_finish (settled_buildAdu (accepted _) hn.1 hn.2) (by decide)
  | pdulen r hk => exact inv_finish (accepted _) hk
  | verify hn => exact inv_verify (settled_setRxNeed (settled_dropFrame (accepted _)) hn.2) hn.1 hn.2
  | flush =>
    exact inv_enter (settled_setBusy (accepted _)) (running_setBusy_accept u _) (by simp [ReceivingOk]) (by decide)
      ⟨fun _ => .inl rfl, nofun, by rintro (h | h) <;> cases h⟩ nofun
      (fun _ h => absurd (show Opcode.frameFlush = Opcode.frameXact from h) (by decide)) nofun
  | send hl =>
    have hfour : 4 ≤ u.txLen.toNat := hs.1.resolve_left hl
    exact inv_enter (settled_setBusy (accepted _)) (running_setBusy_accept u _) (by simp [ReceivingOk]) (by decide)
      ⟨nofun, fun _ => .inl rfl, by rintro (h | h) <;> cases h⟩ (fun _ => hfour) nofun nofun
  | recv =>
    exact inv_enter (settled_setBusy (settled_dropFrame (accepted _))) (running_setBusy_accept u Opcode.frameRecv)
      (fun _ => ⟨rfl, rfl⟩) (by decide) ⟨nofun, nofun, fun _ => .inl rfl⟩ nofun nofun nofun
  | xact hn =>
    refine inv_enter_flush_of_xact (settled_buildAdu (accepted _) hn.1 hn.2) (by simp) (by simp) ?_
    rw [toNat_txLen_buildAdu _ hn.2]
    omega

/-! ### Rounds -/

/-- TX_WRITTEN stays within TX_LEN: the transport takes no more than was offered (R42, R177). -/
theorem Worked.txWritten_le {u v : State} (hv : Worked u v) (h : u.txWritten.toNat ≤ u.txLen.toNat) :
    v.txWritten.toNat ≤ u.txLen.toNat := by
  cases hv with
  | closed | called | delivered | flushed | received => simpa using h
  | sent c k _ _ hk =>
    simp only [transmit_txWritten, call_txWritten, BitVec.toNat_add, BitVec.toNat_ofNat]
    omega

/-- RX_COUNT rises, and while a command receives it stays within RX_NEED (R43, R178). -/
theorem Worked.rxCount_bounds {u v : State} (hv : Worked u v) :
    u.rxCount.toNat ≤ v.rxCount.toNat ∧ v.rxCount.toNat ≤ max u.rxCount.toNat u.rxNeed.toNat := by
  cases hv with
  | closed | called | delivered | flushed | sent => simp
  | received c bytes _ hlt hk =>
    have hlt : u.rxCount.toNat < u.rxNeed.toNat := hlt
    have hneed := u.rxNeed.isLt
    simp only [receive_rxCount, deliver_rxCount, call_rxCount, BitVec.toNat_add, BitVec.toNat_ofNat]
    omega

/-- The received bytes are stored inside RXBUF (R60, R178). -/
theorem Worked.mem_wf {u v : State} (hv : Worked u v) (hneed : u.rxNeed.toNat ≤ 256) (h : Memory.wf u.mem = true) :
    Memory.wf v.mem = true := by
  cases hv with
  | closed | called | delivered | flushed | sent => simpa using h
  | received c bytes _ hlt hk =>
    have hlt : u.rxCount.toNat < u.rxNeed.toNat := hlt
    refine storeRx_wf _ _ _ ?_ h
    simp only [deliver_rxCount, call_rxCount, Config.aduMax]
    omega

/-- RXBUF still holds the frame that was valid (R27). -/
def FrameKept (s t : State) : Prop := s.rxValid = true ∧ t.rxPduLen = s.rxPduLen ∧ ∀ k, t.rx k = s.rx k

/-- While bytes are received there is no valid frame (R27). -/
theorem Inv.no_frame_of_receiving {s : State} (hi : Inv s) (hb : s.busy = true) (hp : s.phase = .rxHdr ∨ s.phase = .rxRest) :
    s.rxValid = false := by
  obtain ⟨-, ⟨-, -, hop⟩, -, -, -, hrecv, -⟩ := hi
  exact (hrecv ⟨hb, hop hp⟩).1

/-- A round's call and transfer leave a valid frame alone: while bytes are received there is none (R27). -/
theorem Worked.frameKept {u v : State} (hv : Worked u v) (hi : Inv u) (hb : u.busy = true) (h : v.rxValid = true) :
    FrameKept u v := by
  have hvalid : u.rxValid = true := hv.rxValid ▸ h
  refine ⟨hvalid, hv.rxPduLen, rx_congr ?_ hv.epoch⟩
  cases hv with
  | received c bytes hp =>
    exact absurd ((hi.no_frame_of_receiving hb hp).symm.trans hvalid) (by decide)
  | closed | called | delivered | flushed | sent => simp

/-- What a round's call and transfer leave keeps the part of the invariant that does not mention the running command. -/
theorem Worked.settled {u v : State} (hv : Worked u v) (hi : Inv u) (hb : u.busy = true) : Settled v := by
  obtain ⟨hbuilt, htx, hwr, hneed, hcount, ⟨hlen, hvalid⟩, hmem⟩ := hi.settled
  have hcount' := hv.rxCount_bounds.2
  rw [Settled, FrameOk, hv.txLen, hv.rxNeed, hv.rxPduLen]
  refine ⟨hbuilt, htx, hv.txWritten_le hwr, hneed, by omega, ⟨hlen, fun h => ?_⟩, hv.mem_wf hneed hmem⟩
  obtain ⟨hu, -, hrx⟩ := hv.frameKept hi hb h
  rw [rxCrcMatches_congr hrx]
  exact hvalid hu

theorem Worked.running {u v : State} (hv : Worked u v) (hr : Running u) : Running v := by
  rw [hv.eq]; exact hr

theorem Worked.receivingOk {u v : State} (hv : Worked u v) (hr : ReceivingOk u) : ReceivingOk v := by
  rw [hv.eq]; exact hr

theorem Worked.sequenceOk {u v : State} (hv : Worked u v) (hq : SequenceOk u) : SequenceOk v := by
  rw [hv.eq]; exact hq

theorem roundErrors_subset : roundErrors ⊆ statusPairs := by decide

/-- A transfer that left its phase incomplete goes on with the next poll. -/
theorem Worked.inv_again {u v : State} (hv : Worked u v) (hi : Inv u) (hb : u.busy = true) (hx : v.exhausted = false)
    (hs : u.phase = .send → v.txWritten ≠ v.txLen) (hr : u.phase = .rxHdr ∨ u.phase = .rxRest → v.rxCount ≠ v.rxNeed) :
    Inv (v.setSub .poll) := by
  obtain ⟨hbuilt, htx, hwr, hneed, hcount, hframe, hmem⟩ := hv.settled hi hb
  obtain ⟨hlo, hhi⟩ := hv.rxCount_bounds
  obtain ⟨hbusy, hclear⟩ := hv.running (hi.running hb)
  obtain ⟨⟨hphase, hverify, -⟩, hseq, ⟨-, hstat⟩, ⟨-, -, -, -, hxact⟩, ⟨-, -, hhdr, hrest⟩, hrecv, -⟩ := hi
  have hne (hp : u.phase = .rxHdr ∨ u.phase = .rxRest) : v.rxCount.toNat ≠ u.rxNeed.toNat := fun h =>
    hr hp (hv.rxNeed ▸ BitVec.eq_of_toNat_eq h)
  refine ⟨⟨?_, ?_, fun _ => rfl⟩, hv.sequenceOk hseq, ⟨fun _ => hclear, ?_⟩, ⟨hbuilt, htx, hwr, ?_, ?_⟩,
    ⟨hneed, hcount, ?_, ?_⟩, hv.receivingOk hrecv, hframe, fun _ => exhausted_eq_false.mp hx, hmem⟩
  · simpa [hv.busy, hv.phase] using hphase
  · simpa [hv.phase] using hverify
  · rw [hv.eq]; exact hstat
  · intro hp
    exact lt_of_le_of_ne hwr fun h => hs (hv.phase ▸ hp) (BitVec.eq_of_toNat_eq h)
  · simpa [hv.phase, hv.lastOp, hv.txLen] using hxact
  · simp only [setSub_phase, setSub_rxNeed, setSub_rxCount, hv.phase, hv.rxNeed]
    intro hp
    have := hhdr hp
    have := hne (.inl hp)
    omega
  · simp only [setSub_phase, setSub_rxNeed, setSub_rxCount, hv.phase, hv.rxNeed]
    intro hp
    have := hrest hp
    have := hne (.inr hp)
    omega

theorem RoundCase.inv {u t : State} (h : RoundCase u t) (hi : Inv u) (hb : u.busy = true) : Inv t := by
  have hrun := hi.running hb
  have hsettled {v : State} (hv : Worked u v) : Settled v := hv.settled hi hb
  obtain ⟨⟨hphase, hverify, -⟩, hseq, hstat, htx, hrx, hrecv, hframe, -, hmem⟩ := id hi
  cases h with
  | failed hv hk => exact inv_finish (hsettled hv) (roundErrors_subset hk)
  | succeeded hv => exact inv_finish (hsettled hv) (by decide)
  | ready c =>
    exact ⟨⟨hphase, hverify, fun h => absurd (hb.symm.trans h) (by decide)⟩, hseq, hstat, htx, hrx, hrecv, hframe, by simp,
      hmem⟩
  | again hv hx hs hr => exact hv.inv_again hi hb hx hs hr
  | toSend hv hp ho =>
    obtain ⟨-, -, -, -, hfour⟩ := htx
    exact inv_enter (hsettled hv) (hv.running hrun) (hv.receivingOk hrecv) (by decide)
      ⟨nofun, fun _ => .inr (hv.lastOp.trans ho), by rintro (h | h) <;> cases h⟩
      (fun _ => hv.txLen ▸ hfour ⟨hp, ho⟩) nofun nofun
  | toHeader hv hp ho =>
    exact inv_enter (hsettled hv) (hv.running hrun) (hv.receivingOk hrecv) (by decide)
      ⟨nofun, nofun, fun _ => .inr (hv.lastOp.trans ho)⟩ nofun nofun nofun
  | @toRest v hv hp hc l hl =>
    obtain ⟨-, -, hop⟩ := hseq
    obtain ⟨-, -, hhdr, -⟩ := hrx
    have hcount : v.rxCount.toNat = 3 := by rw [hc, hv.rxNeed]; exact (hhdr hp).1
    have hneed : (BitVec.ofNat 16 (l + 3)).toNat = l + 3 := by rw [BitVec.toNat_ofNat]; omega
    refine inv_enter (settled_setRxNeed (hsettled hv) (by omega)) (hv.running hrun) (hv.receivingOk hrecv) (by decide)
      ⟨nofun, nofun, fun _ => hv.lastOp ▸ hop (.inl hp)⟩ nofun nofun fun _ => ?_
    simp only [setRxNeed_rxNeed, setRxNeed_rxCount, hneed, hcount]
    omega
  | verified hv hp =>
    obtain ⟨hneed, -, -, hrest⟩ := hrx
    obtain ⟨hlo, -⟩ := hrest hp
    exact inv_verify (hsettled hv) (by rw [hv.rxNeed]; omega) (by rw [hv.rxNeed]; exact hneed)

theorem WriteCase.inv {u t : State} (h : WriteCase u t) (hi : Inv u) : Inv t := by
  cases h with
  | command h => exact h.inv hi.settled
  | register h => rw [h]; exact hi
  | txByte i b hlt h => rw [h]; exact hi.txByte hlt b
  | rxByte i b hlt h => rw [h]; exact hi.rxByte hlt b

/-- Settles O53: a case analysis over what the step was, with the invariant of each case. -/
theorem stepKeepsTheInvariant : Obligations.StepKeepsTheInvariant := by
  intro s t hi h
  cases step_cases h with
  | reset _ hv => exact inv_of_atResetValues hv
  | pass hp => exact hi.passed hp
  | write off w tgt v now rest hb ht h => exact (writeTarget_cases ht h).inv hi
  | round a now rest hb h => exact (blockRound_cases h).inv hi hb

end Sys2Proof.Machine
end

section
/-! SUPPORT. A frame is valid only by verification (spec/10_state.md R27). -/

namespace Sys2Proof.Machine

/-- The step has just verified a frame of the slave addressed, with the right CRC (R180). -/
def FrameVerified (t : State) : Prop :=
  t.done = true ∧ t.err = .success ∧ t.endPhase = .verify ∧ t.rx 0 = t.slave ∧
    let n := t.rxPduLen.toNat + 3
    t.crc = crc16 (t.rxBytes 0 (n - 2)) ∧ t.rx (n - 2) = t.crc.extractLsb' 0 8 ∧ t.rx (n - 1) = t.crc.extractLsb' 8 8

/-- Verification makes a frame valid only when the slave and the CRC are right (R180). -/
theorem frameVerified_of_verify {s : State} {n : Nat} (hlo : 4 ≤ n) (hhi : n ≤ 256) (hs : s.rxValid = false)
    (h : (s.verify n).rxValid = true) : FrameVerified (s.verify n) := by
  unfold State.verify at h ⊢
  dsimp only at h ⊢
  split at h
  · exact absurd (hs.symm.trans h) (by decide)
  · next hslave =>
    rw [if_neg hslave]
    split at h
    · next hm =>
      rw [if_pos hm]
      have hlen : (BitVec.ofNat 16 (n - 3)).toNat + 3 = n := by rw [BitVec.toNat_ofNat]; omega
      simp only [State.rxCrcMatches, Bool.and_eq_true, beq_iff_eq] at hm
      refine ⟨rfl, rfl, rfl, not_not.mp hslave, ?_⟩
      simp only [finishOk_rxPduLen, validFrame_rxPduLen, hlen]
      exact ⟨rfl, hm.1, hm.2⟩
    · exact absurd (hs.symm.trans h) (by decide)

/-- An accept leaves a frame valid only if it was, and then leaves its length (R27). -/
theorem rxValid_of_accept {u : State} {op : Byte} (h : (u.accept op).rxValid = true) :
    u.rxValid = true ∧ (u.accept op).rxPduLen = u.rxPduLen := by
  rw [accept_rxValid] at h
  rw [accept_rxPduLen]
  split at h
  · cases h
  · next ho => exact ⟨h, if_neg ho⟩

/-- An entered phase has the frame of before. -/
theorem frameKept_of_enter {s u : State} {p : Phase} (h : (u.enter p).rxValid = true) (hk : u.rxValid = true → FrameKept s u) :
    FrameKept s (u.enter p) := by
  obtain ⟨-, -, -, he, hv, hl, hm, -⟩ := enter_frame u p
  obtain ⟨hvalid, hlen, hrx⟩ := hk (hv ▸ h)
  exact ⟨hvalid, hl.trans hlen, fun k => (rx_congr hm he k).trans (hrx k)⟩

theorem AcceptCase.frame {u t : State} (h : AcceptCase u t) (ht : t.rxValid = true) : FrameKept u t ∨ FrameVerified t := by
  have accepted {op : Byte} (hv : (u.accept op).rxValid = true) : FrameKept u (u.accept op) :=
    ⟨(rxValid_of_accept hv).1, (rxValid_of_accept hv).2, fun _ => rfl⟩
  cases h with
  | failed op => exact .inl (accepted (op := op) ht)
  | crc op c => exact .inl (accepted (op := op) ht)
  | load => exact .inl (accepted (op := Opcode.budgetLoad) ht)
  | charge => exact .inl (accepted (op := Opcode.budgetCharge) ht)
  | pdulen => exact .inl (accepted (op := Opcode.framePdulen) ht)
  | @build n hn =>
    rw [finishOk_rxValid, buildAdu_rxValid] at ht
    obtain ⟨hv, hl, -⟩ := accepted ht
    exact .inl ⟨hv, by simpa using hl, fun k => rx_buildAdu (u.accept Opcode.frameBuild) n k hn.2⟩
  | verify hn => exact .inr (frameVerified_of_verify hn.1 hn.2 rfl ht)
  | flush => exact .inl (frameKept_of_enter ht fun hv => accepted (op := Opcode.frameFlush) hv)
  | send => exact .inl (frameKept_of_enter ht fun hv => accepted (op := Opcode.frameSend) hv)
  | recv => exact .inl (frameKept_of_enter ht nofun)
  | xact => exact .inl (frameKept_of_enter ht nofun)

theorem RoundCase.frame {u t : State} (h : RoundCase u t) (hi : Inv u) (hb : u.busy = true) (ht : t.rxValid = true) :
    FrameKept u t ∨ FrameVerified t := by
  have worked {v : State} (hv : Worked u v) (h : v.rxValid = true) : FrameKept u v := hv.frameKept hi hb h
  cases h with
  | failed hv => exact .inl (worked hv ht :)
  | succeeded hv => exact .inl (worked hv ht :)
  | ready c => exact .inl (worked (.called c) ht :)
  | again hv => exact .inl (worked hv ht :)
  | toSend hv => exact .inl (frameKept_of_enter ht (worked hv))
  | toHeader hv => exact .inl (frameKept_of_enter ht (worked hv))
  | toRest hv => exact .inl (frameKept_of_enter ht fun h => (worked hv h :))
  | verified hv hp =>
    have hnone := hi.no_frame_of_receiving hb (.inr hp)
    obtain ⟨-, -, -, -, ⟨hneed, -, -, hrest⟩, -⟩ := hi
    obtain ⟨hlo, -⟩ := hrest hp
    refine .inr (frameVerified_of_verify ?_ ?_ (hv.rxValid.trans hnone) ht)
    · rw [hv.rxNeed]; omega
    · rw [hv.rxNeed]; exact hneed

theorem WriteCase.frame {u t : State} (h : WriteCase u t) (ht : t.rxValid = true) : FrameKept u t ∨ FrameVerified t := by
  cases h with
  | command h => exact h.frame ht
  | register h => rw [h] at ht ⊢; exact .inl ⟨ht, rfl, fun _ => rfl⟩
  | txByte i b hi h => subst h; exact .inl ⟨ht, rfl, rx_setByte_tx u hi b⟩
  | rxByte i b hi h => rw [h] at ht; cases ht

/-- Settles O56: only a verification makes a frame valid, and no other step touches a valid one. -/
theorem framesAreValidOnlyByVerification : Obligations.FramesAreValidOnlyByVerification := by
  intro s t hi h ht
  cases step_cases h with
  | reset _ hv =>
    obtain ⟨-, -, -, hno, -⟩ := hv
    exact absurd (hno.symm.trans ht) (by decide)
  | pass hp => rw [hp] at ht ⊢; exact .inl ⟨ht, rfl, fun _ => rfl⟩
  | write off w tgt v now rest hb htgt h => exact (writeTarget_cases htgt h).frame ht
  | round a now rest hb h => exact (blockRound_cases h).frame hi hb ht

end Sys2Proof.Machine
end

section
/-! SUPPORT. What the end of a running command records (spec/10_state.md R25 to R32). -/

namespace Sys2Proof.Machine

/-- The outcomes of a frame that verification rejects (R180). -/
def rejections : List (ErrKind × Byte) := [(.protocolError, 3), (.protocolError, 4)]

/-- The phases that a phase of a running command hands over to (R187). -/
abbrev NextPhase (p e : Phase) : Prop :=
  (p = .flush ∧ e = .send) ∨ (p = .send ∧ e = .rxHdr) ∨ (p = .rxHdr ∧ e = .rxRest)

/-- What the rules say of a command's end with this outcome: `p` is the phase before it, `e` the one it records. On Timeout
detail 1 that is the phase that could not be entered (R176), VERIFY when a whole frame was checked (R180), else `p`. -/
abbrev CompletionOk (p : Phase) (outcome : ErrKind × Byte) (e : Phase) : Prop :=
  outcome ∈ statusPairs ∧ outcome.1 ≠ .invalidOperation ∧ e ≠ .idle ∧
    (outcome = (.timeout, 1) → NextPhase p e) ∧
    (outcome ∈ rejections ∨ (outcome = (.success, 0) ∧ p = .rxRest) → p = .rxRest ∧ e = .verify) ∧
    (outcome = (.success, 0) → p ≠ .rxHdr) ∧
    (outcome ≠ (.timeout, 1) → outcome ∉ rejections → outcome ≠ (.success, 0) ∨ p ≠ .rxRest → e = p)

/-- An error of the round itself records the phase it ran. -/
theorem completionOk_of_roundError {p : Phase} {o : ErrKind × Byte} (hp : p ≠ .idle) (ho : o ∈ roundErrors) :
    CompletionOk p o p := by
  have hother : ∀ o ∈ roundErrors, o.1 ≠ .invalidOperation ∧ o ≠ (.timeout, 1) ∧ o ∉ rejections ∧ o ≠ (.success, 0) := by
    decide
  obtain ⟨hinvalid, htimeout, hrejected, hsuccess⟩ := hother o ho
  exact ⟨roundErrors_subset ho, hinvalid, hp, fun h => absurd h htimeout,
    fun h => h.elim (absurd · hrejected) fun h => absurd h.1 hsuccess, fun h => absurd h hsuccess, fun _ _ _ => rfl⟩

/-- FLUSH and SEND end a command that has no phase after them. -/
theorem completionOk_of_lastPhase {p : Phase} (hp : p = .flush ∨ p = .send) : CompletionOk p (.success, 0) p := by
  rcases hp with rfl | rfl <;> and_intros <;> decide

/-- The next phase could not be entered. -/
theorem completionOk_of_nextPhase {p e : Phase} (h : NextPhase p e) : CompletionOk p (.timeout, 1) e := by
  rcases h with ⟨rfl, rfl⟩ | ⟨rfl, rfl⟩ | ⟨rfl, rfl⟩ <;> and_intros <;> decide

/-- A whole frame was checked. -/
theorem completionOk_of_verify {o : ErrKind × Byte} (ho : o ∈ (.success, 0) :: rejections) :
    CompletionOk .rxRest o .verify := by
  simp only [rejections, List.mem_cons, List.not_mem_nil, or_false] at ho
  rcases ho with rfl | rfl | rfl <;> and_intros <;> decide

/-- The state `t` records the end of the command that was running in `u`. -/
def Ended (u t : State) : Prop :=
  (t.done = true ∧ t.phase = .idle ∧ t.sub = .poll ∧ t.lastOp = u.lastOp ∧ t.coll = u.coll) ∧
    CompletionOk u.phase (t.err, t.detail) t.endPhase

/-- A phase that cannot be entered ends the command with Timeout, detail 1, in that phase (R176). -/
theorem ended_of_enter {u v : State} {p : Phase} (hv : v.lastOp = u.lastOp ∧ v.coll = u.coll ∧ v.busy = true)
    (hp : NextPhase u.phase p) (h : (v.enter p).busy = false) : Ended u (v.enter p) := by
  obtain ⟨ho, hc, hb⟩ := hv
  rcases Int.lt_or_le 0 v.budget.toInt with hx | hx
  · rw [enter_of_budget hx] at h
    have : ((v.atPhase p).beginPhase p).busy = v.busy := by cases p <;> rfl
    exact absurd (hb.symm.trans (this.symm.trans h)) (by decide)
  · rw [enter_of_exhausted hx]
    exact ⟨⟨rfl, rfl, rfl, ho, hc⟩, completionOk_of_nextPhase hp⟩

/-- The three outcomes of verification (R180). -/
theorem verify_outcome (s : State) (n : Nat) :
    ((s.verify n).err, (s.verify n).detail) ∈ (.success, 0) :: rejections := by
  unfold State.verify
  dsimp only
  split
  · simp [rejections]
  · split <;> simp [rejections]

theorem RoundCase.ended {u t : State} (h : RoundCase u t) (hi : Inv u) (hb : u.busy = true) (ht : t.busy = false) :
    Ended u t := by
  obtain ⟨⟨hphase, -⟩, -⟩ := hi
  have running {v : State} (hv : Worked u v) : v.lastOp = u.lastOp ∧ v.coll = u.coll ∧ v.busy = true :=
    ⟨hv.lastOp, hv.coll, hv.busy.trans hb⟩
  cases h with
  | failed hv hk =>
    refine ⟨⟨rfl, rfl, rfl, hv.lastOp, hv.coll⟩, ?_⟩
    rw [finish_endPhase, hv.phase]
    exact completionOk_of_roundError (hphase.mp hb) hk
  | succeeded hv hq =>
    refine ⟨⟨rfl, rfl, rfl, hv.lastOp, hv.coll⟩, ?_⟩
    change CompletionOk u.phase (.success, 0) _
    rw [finishOk_endPhase, hv.phase]
    exact completionOk_of_lastPhase hq
  | ready c => exact absurd (hb.symm.trans ht) (by decide)
  | again hv => exact absurd ((hv.busy.trans hb).symm.trans ht) (by decide)
  | toSend hv hq => exact ended_of_enter (running hv) (.inl ⟨hq, rfl⟩) ht
  | toHeader hv hq => exact ended_of_enter (running hv) (.inr (.inl ⟨hq, rfl⟩)) ht
  | toRest hv hq => exact ended_of_enter (running hv :) (.inr (.inr ⟨hq, rfl⟩)) ht
  | @verified v hv hq =>
    obtain ⟨-, hd, hph, hs, he, ho, hc, -⟩ := verify_frame v v.rxNeed.toNat
    refine ⟨⟨hd, hph, hs, ho.trans hv.lastOp, hc.trans hv.coll⟩, ?_⟩
    rw [hq, he]
    exact completionOk_of_verify (verify_outcome v v.rxNeed.toNat)

/-- Settles O49: a running command ends only in a round, and each end of a round is listed. -/
theorem completionIsRecorded : Obligations.CompletionIsRecorded := by
  intro s t hi hb h ht he
  cases step_cases h with
  | reset hr => exact absurd (he.symm.trans hr) (by omega)
  | pass hp => exact absurd (hb.symm.trans ((congrArg State.busy hp).symm.trans ht)) (by decide)
  | write off w tgt v now rest hidle => exact absurd (hb.symm.trans hidle) (by decide)
  | round a now rest _ h =>
    obtain ⟨⟨hdone, hphase, hsub, hop, hcoll⟩, hend⟩ := (blockRound_cases h).ended hi hb ht
    exact ⟨hdone, hphase, hsub, hop, hcoll, hend⟩

end Sys2Proof.Machine
end

section
/-! SUPPORT. The memory of the model is canonical (log entry 1). -/

namespace Sys2Proof.Machine

/-- Nothing is read below the first address. -/
theorem Memory.read_eq_none {lo a : Nat} {m : Memory} (hm : Memory.risesFrom lo m = true) (ha : a < lo) :
    Memory.read a m = none := by
  cases m with
  | nil => rfl
  | cons e m =>
    simp only [Memory.risesFrom, Bool.and_eq_true, decide_eq_true_eq] at hm
    rw [Memory.read, if_neg (by omega), if_pos (by omega)]

theorem Memory.read_cons_same (k : Nat) (v : Byte) (m : Memory) : Memory.read k ((k, v) :: m) = some v := if_pos rfl

theorem Memory.read_cons_below {k a : Nat} (h : a < k) (v : Byte) (m : Memory) : Memory.read a ((k, v) :: m) = none := by
  rw [Memory.read, if_neg h.ne', if_pos h]

theorem Memory.read_cons_above {k a : Nat} (h : k < a) (v : Byte) (m : Memory) :
    Memory.read a ((k, v) :: m) = Memory.read a m := by
  rw [Memory.read, if_neg h.ne, if_neg h.not_gt]

/-- Memories that read alike begin at the same address, with the same byte: each first byte is read in the other. -/
theorem Memory.head_eq {k k' : Nat} {v v' : Byte} {m m' : Memory}
    (h : ∀ a, Memory.read a ((k, v) :: m) = Memory.read a ((k', v') :: m')) : k = k' ∧ v = v' := by
  rcases Nat.lt_trichotomy k k' with hlt | rfl | hlt
  · have := h k
    rw [Memory.read_cons_same, Memory.read_cons_below hlt] at this
    cases this
  · have := h k
    rw [Memory.read_cons_same, Memory.read_cons_same] at this
    exact ⟨rfl, Option.some.inj this⟩
  · have := h k'
    rw [Memory.read_cons_same, Memory.read_cons_below hlt] at this
    cases this

/-- Two memories whose addresses rise are equal when they read alike. -/
theorem Memory.ext_of_risesFrom {lo lo' : Nat} {m m' : Memory} (hm : Memory.risesFrom lo m = true)
    (hm' : Memory.risesFrom lo' m' = true) (h : ∀ a, Memory.read a m = Memory.read a m') : m = m' := by
  induction m generalizing lo lo' m' with
  | nil =>
    cases m' with
    | nil => rfl
    | cons e' m' => exact absurd ((h e'.1).trans (Memory.read_cons_same e'.1 e'.2 m')) nofun
  | cons e m ih =>
    cases m' with
    | nil => exact absurd ((h e.1).symm.trans (Memory.read_cons_same e.1 e.2 m)) nofun
    | cons e' m' =>
      obtain ⟨k, v⟩ := e
      obtain ⟨k', v'⟩ := e'
      obtain ⟨rfl, rfl⟩ := Memory.head_eq h
      obtain ⟨-, hm⟩ := Bool.and_eq_true_iff.mp hm
      obtain ⟨-, hm'⟩ := Bool.and_eq_true_iff.mp hm'
      rw [ih hm hm' fun a => ?_]
      rcases Nat.lt_or_ge k a with ha | ha
      · rw [← Memory.read_cons_above ha v m, ← Memory.read_cons_above ha v m', h]
      · rw [Memory.read_eq_none hm (by omega), Memory.read_eq_none hm' (by omega)]

/-- Settles O33: the addresses rise strictly, so each listed byte is read and nothing else is. -/
theorem memoryIsCanonical : Obligations.MemoryIsCanonical := by
  refine ⟨fun m m' hm hm' h => Memory.ext_of_risesFrom hm hm' h, fun m a b hm ha => ⟨?_, ?_, ?_⟩⟩
  · refine Memory.wf_write b ?_ hm
    simp only [inTxWindow, inRxWindow, Bool.or_eq_true, Bool.and_eq_true, decide_eq_true_eq, Config.txBase, Config.rxBase,
      Config.aduMax]
    omega
  · exact Memory.read_write_same a b m
  · exact fun x hx => Memory.read_write_other hx b m

end Sys2Proof.Machine
end

section
/-! SUPPORT. The host's window: the target of each offset, what a read gives back and a write does, and the STATUS word. -/

namespace Sys2Proof.Machine

theorem targetAt_register {off : BitVec 11} (hlt : off.toNat < 0x100) (h4 : off.toNat % 4 = 0) :
    targetAt off .w32 = some (.register (registerMap.getD (off.toNat / 4) .reserved)) := by
  simp [targetAt, hlt, h4]

theorem targetAt_txByte {i : Nat} (hi : i < 260) : targetAt (BitVec.ofNat 11 (0x100 + i)) .w8 = some (.txByte i) := by
  have hoff : (BitVec.ofNat 11 (0x100 + i)).toNat = 0x100 + i := by rw [BitVec.toNat_ofNat]; omega
  simp [targetAt, hoff, inTxWindow, hi]

theorem targetAt_rxByte {i : Nat} (hi : i < 260) : targetAt (BitVec.ofNat 11 (0x300 + i)) .w8 = some (.rxByte i) := by
  have hoff : (BitVec.ofNat 11 (0x300 + i)).toNat = 0x300 + i := by rw [BitVec.toNat_ofNat]; omega
  have hreg : ¬0x300 + i < 0x100 := by omega
  have htx : inTxWindow (0x300 + i) = false := by
    simp only [inTxWindow, Bool.and_eq_false_iff, decide_eq_false_iff_not, Config.txBase, Config.aduMax]
    omega
  have hrx : inRxWindow (0x300 + i) = true := by simp [inRxWindow, hi]
  simp [targetAt, hoff, hreg, htx, hrx]

section
variable {s : State} {off : BitVec 11} {w : Width} {tgt : Target} {v now : Word} {rest : List Input}

/-- A step that takes an admitted read gives the target's value back (R65). -/
theorem step_read (hr : s.resetAsserted = false) (hi : s.inputs = .host off (.read w) now :: rest)
    (ht : targetAt off w = some tgt) :
    step s = .next { s.took rest now with hostData := some ((s.took rest now).readTarget tgt) } := by
  rw [step_host hi, if_neg (by simp [hr])]
  simp only [hostAccess, ht]
  rfl

/-- A step that takes an admitted write while the block is idle is that write (R65). -/
theorem step_write (hb : s.busy = false) (hr : s.resetAsserted = false) (hi : s.inputs = .host off (.write w v) now :: rest)
    (ht : targetAt off w = some tgt) : step s = writeTarget tgt v (s.took rest now) := by
  rw [step_host hi, if_neg (by simp [hr])]
  simp only [hostAccess, ht]
  exact if_neg (by simpa [State.took] using hb)

end

/-- Settles O6: offset 0 is CMD. -/
theorem stepRunsTheCommandWritten : Obligations.StepRunsTheCommandWritten := by
  intro s w now rest hb hr hi
  have hstep : step s = acceptCommand w (s.took rest now) := step_write hb hr hi rfl
  exact ⟨hstep, fun i hd => by rw [hstep, acceptCommand, hd]⟩

/-- Every offset of R21's map is that of a register, and the value there is the one it reads. -/
theorem registerValues_target (s : State) :
    ∀ p ∈ registerValues s, ∃ r, targetAt p.1 .w32 = some (.register r) ∧ p.2 = s.register r := by
  simp only [registerValues, List.forall_mem_cons]
  exact ⟨⟨.cmd, rfl, rfl⟩, ⟨.status, rfl, rfl⟩, ⟨.arg, rfl, rfl⟩, ⟨.slave, rfl, rfl⟩, ⟨.budget, rfl, rfl⟩,
    ⟨.mark, rfl, rfl⟩, ⟨.now, rfl, rfl⟩, ⟨.crc, rfl, rfl⟩, ⟨.result, rfl, rfl⟩, ⟨.txLen, rfl, rfl⟩, ⟨.txWritten, rfl, rfl⟩,
    ⟨.rxCount, rfl, rfl⟩, ⟨.rxNeed, rfl, rfl⟩, ⟨.rxPduLen, rfl, rfl⟩, ⟨.flushCount, rfl, rfl⟩, ⟨.flushPollMs, rfl, rfl⟩,
    ⟨.phase, rfl, rfl⟩, ⟨.link, rfl, rfl⟩, List.forall_mem_nil _⟩

/-- Settles O38: each offset has one target, and a read gives back that target's value. -/
theorem hostReadsGiveBack : Obligations.HostReadsGiveBack := by
  intro s now rest hr
  refine ⟨fun p hp hi => ?_, fun off hlo hhi h4 hi => ?_, fun i hlt hi => ?_, fun i hlt hi => ?_⟩
  · obtain ⟨r, ht, hv⟩ := registerValues_target _ p hp
    rw [hv]
    exact step_read hr hi ht
  · rw [step_read hr hi (targetAt_register (by omega) h4),
      List.getD_eq_default _ _ (by change 18 ≤ _; omega)]
    rfl
  · exact step_read hr hi (targetAt_txByte hlt)
  · exact step_read hr hi (targetAt_rxByte hlt)

/-- Every register but CMD, ARG, SLAVE and FLUSH_POLL_MS ignores a write (R21, R52). -/
theorem writeRegister_of_notWritable {r : Reg} (h : r ∉ [Reg.cmd, .arg, .slave, .flushPollMs]) (v : Word) (s : State) :
    writeRegister r v s = .next s := by
  cases r
  case cmd | arg | slave | flushPollMs => simp at h
  all_goals rfl

/-- The offsets of the writable registers are 0x00, 0x08, 0x0C and 0x3C (R21). -/
theorem registerMap_notWritable :
    ∀ k < 64, k ∉ [0, 2, 3, 15] → registerMap.getD k .reserved ∉ [Reg.cmd, .arg, .slave, .flushPollMs] := by decide

theorem step_round_idle {s : State} {a : Answer} {now : Word} {rest : List Input} (hb : s.busy = false)
    (hr : s.resetAsserted = false) (hi : s.inputs = .round a now :: rest) : step s = .next (s.took rest now) := by
  simp only [step, hi, takeInput, blockStep, setNow_resetAsserted, setInputs_resetAsserted, setNow_busy, setInputs_busy, hr, hb]
  rfl

/-- Settles O41: each write is the one of its offset's target. -/
theorem writesAndWaitingWhileIdle : Obligations.WritesAndWaitingWhileIdle := by
  refine ⟨fun s isOpen rest hr hi => step_link hr hi, fun s v now rest hb hr => ?_⟩
  refine ⟨step_quiet_idle hb hr, fun a hi => step_round_idle hb hr hi, fun hi => step_write hb hr hi rfl, fun hi => ?_,
    fun hi => ?_, fun off hhi h4 hne hi => ?_, fun i hlt hi => ?_, fun i hlt hi => ?_⟩
  · rw [step_write hb hr hi rfl]; rfl
  · rw [step_write hb hr hi rfl]; rfl
  · have hk : off.toNat / 4 ∉ [0, 2, 3, 15] := by
      simp only [List.mem_cons, List.not_mem_nil, or_false, not_or] at hne ⊢
      bv_omega
    rw [step_write hb hr hi (targetAt_register (by omega) h4)]
    exact writeRegister_of_notWritable (registerMap_notWritable _ (by omega) hk) v _
  · refine ⟨_, step_write hb hr hi (targetAt_txByte hlt), rfl, ?_, fun a ha => byteAt_setByte_other _ _ ha⟩
    exact byteAt_setByte_same _ _ _
  · refine ⟨_, step_write hb hr hi (targetAt_rxByte hlt), rfl, ?_, fun a ha => byteAt_setByte_other (s.took rest now) _ ha⟩
    exact byteAt_setByte_same _ _ _

/-! ### The STATUS word -/

/-- The flags of STATUS, at bits 0 to 4 (R23, R28). -/
theorem statusWord_flags (s : State) :
    s.statusWord.getLsbD 0 = s.busy ∧ s.statusWord.getLsbD 1 = s.done ∧ s.statusWord.getLsbD 2 = s.coll ∧
      s.statusWord.getLsbD 3 = s.rxValid ∧ s.statusWord.getLsbD 4 = decide (s.budget.toInt ≤ 0) := by
  refine ⟨?_, ?_, ?_, ?_, ?_⟩ <;> simp [State.statusWord, State.exhausted]

/-- The fields of STATUS above bit 4, bit by bit (R23). -/
theorem statusWord_fields (s : State) :
    s.statusWord.extractLsb' 5 3 = 0 ∧ s.statusWord.extractLsb' 8 4 = s.err.code ∧
      s.statusWord.extractLsb' 12 4 = s.endPhase.code ∧ s.statusWord.extractLsb' 16 8 = s.detail ∧
      s.statusWord.extractLsb' 24 8 = s.lastOp := by
  refine ⟨?_, ?_, ?_, ?_, ?_⟩ <;> ext k hk <;> interval_cases k <;> simp [State.statusWord]

/-- Settles O37: the fields at their bits, the codes as the tables list them, and STATUS among the registers that ignore a
write. -/
theorem statusLayout : Obligations.StatusLayout := by
  intro s
  obtain ⟨busy, done, coll, rxValid, expired⟩ := statusWord_flags s
  refine ⟨⟨busy, done, coll, rxValid, expired, statusWord_fields s⟩, rfl, rfl, rfl, rfl, rfl, rfl, rfl, rfl, rfl, rfl, rfl,
    rfl, rfl, rfl, rfl, fun v now rest hb hr hi => ?_⟩
  exact step_write hb hr hi rfl

/-! ### Reset -/

/-- Settles O51: by evaluation; no byte is listed after reset. -/
theorem resetValues : Obligations.ResetValues :=
  ⟨by simp [AtResetValues, State.reset], rfl, fun _ => rfl⟩

end Sys2Proof.Machine
end

section
/-! SUPPORT. A CRC.BYTE sequence continues the accumulator over its bytes (spec/10_state.md R55). -/

namespace Sys2Proof.Machine

/-- A format B word decodes to its opcode and its byte, and its reserved half is 0 (R110). -/
theorem formatB_fields (op a : Byte) :
    opcodeOf (op.setWidth 32 ||| a.setWidth 32 <<< 8) = op ∧ fieldA8 (op.setWidth 32 ||| a.setWidth 32 <<< 8) = a ∧
      (op.setWidth 32 ||| a.setWidth 32 <<< 8 : Word).extractLsb' 16 16 = 0 := by
  refine ⟨?_, ?_, ?_⟩ <;> ext k hk <;> interval_cases k <;> simp [opcodeOf, fieldA8]

/-- The word of CRC.BYTE decodes to it. -/
theorem decode_crcByte (b : Byte) : decode (.command (commandWord (.crcByte b))) = .ok (.crcByte b) := by
  obtain ⟨hop, ha, hz⟩ := formatB_fields Opcode.crcByte b
  change decodeCommand (Opcode.crcByte.setWidth 32 ||| b.setWidth 32 <<< 8) = _
  unfold decodeCommand
  rw [hop]
  change formatB _ _ = _
  rw [formatB, ha, hz]
  rfl

/-- A step that takes the write of CRC.BYTE on an idle block absorbs the byte and leaves the block idle (R132). -/
theorem step_crcByte {s : State} {b : Byte} {now : Word} {rest : List Input} (hidle : Idle s) (hr : s.resetAsserted = false)
    (hi : s.inputs = commandInput now (.crcByte b) :: rest) :
    step s = .next (((s.took rest now).accept Opcode.crcByte).setCrc (crcByte s.crc b)).finishOk := by
  rw [step_write hidle.1 hr hi rfl]
  change acceptCommand _ _ = _
  rw [acceptCommand, decode_crcByte]
  rfl

/-- A CRC.BYTE sequence continues the accumulator over its bytes. -/
theorem runSteps_crcBytes {s : State} {bytes : List Byte} {now : Word} {rest : List Input} (hidle : Idle s)
    (hr : s.resetAsserted = false) (hi : s.inputs = bytes.map (fun b => commandInput now (.crcByte b)) ++ rest) :
    ∃ t, runSteps bytes.length s = .next t ∧ t.crc = bytes.foldl crcByte s.crc ∧ t.inputs = rest ∧ Idle t := by
  induction bytes generalizing s with
  | nil => exact ⟨s, rfl, rfl, hi, hidle⟩
  | cons b bytes ih =>
    rw [List.length_cons, runSteps, step_crcByte hidle hr hi]
    exact ih ⟨rfl, rfl, rfl⟩ hr rfl

/-- Settles O29: crc16 is the fold of the bytes from 0xFFFF. -/
theorem crcBytesFromResetValue : Obligations.CrcBytesFromResetValue := by
  refine ⟨rfl, fun s bytes now rest hidle hr hcrc hi => ?_⟩
  obtain ⟨t, hrun, ht, hrest⟩ := runSteps_crcBytes hidle hr hi
  exact ⟨t, hrun, by rw [ht, hcrc]; rfl, hrest⟩

end Sys2Proof.Machine
end

section
/-! SUPPORT. Bytes enter the transmit stream in TXBUF order, and received bytes are stored in stream order
(spec/20_memory.md R80). -/

namespace Sys2Proof.Machine

/-! ### Slices of the buffers -/

/-- The bytes of TXBUF already sent, and the next k of those offered (R177). -/
theorem txBytes_append_take (s : State) {i k n : Nat} (h : k ≤ n - i) :
    s.txBytes 0 i ++ (s.txBytes i n).take k = s.txBytes 0 (i + k) := by
  have happend := List.range'_append_1 (s := 0) (m := i) (n := k)
  rw [Nat.zero_add] at happend
  simp only [State.txBytes, Nat.sub_zero, ← List.map_take, List.take_range'_of_length_ge h, ← List.map_append, happend]

theorem rxBytes_append (s : State) (i n : Nat) : s.rxBytes 0 i ++ s.rxBytes i (i + n) = s.rxBytes 0 (i + n) := by
  have happend := List.range'_append_1 (s := 0) (m := i) (n := n)
  rw [Nat.zero_add] at happend
  simp only [State.rxBytes, Nat.sub_zero, Nat.add_sub_cancel_left, ← List.map_append, happend]

/-- Received bytes stand in RXBUF, in order, after those already there (R178). -/
theorem rxBytes_receive (s : State) (bytes : List Byte) :
    (s.receive bytes).rxBytes 0 (s.rxCount.toNat + bytes.length) = s.rxBytes 0 s.rxCount.toNat ++ bytes := by
  have before : (s.receive bytes).rxBytes 0 s.rxCount.toNat = s.rxBytes 0 s.rxCount.toNat :=
    rxBytes_congr fun k _ hk => byteAt_storeRx_other s _ bytes (.inl (Nat.add_lt_add_left hk _))
  have stored : (s.receive bytes).rxBytes s.rxCount.toNat (s.rxCount.toNat + bytes.length) = bytes :=
    List.ext_getElem (by simp) fun k _ hk => by
      have hrx : (s.receive bytes).rx (s.rxCount.toNat + k) = bytes[k] := rx_storeRx s s.rxCount.toNat bytes hk
      simpa [State.rxBytes] using hrx
  rw [← rxBytes_append, before, stored]

/-! ### The relation at the start and at the end of a phase -/

theorem streamsOk_of_idle {s : State} (h : s.phase = .idle) : StreamsOk s := by simp [StreamsOk, h]

/-- SEND and RX_HDR begin with no byte counted, and RX_REST goes on with the bytes of the header (R176). -/
theorem streamsOk_enter {s : State} {p : Phase} (h : p = .rxRest → s.rxBytes 0 s.rxCount.toNat <:+ s.rxStream) :
    StreamsOk (s.enter p) := by
  rcases Int.lt_or_le 0 s.budget.toInt with hb | hb
  · rw [enter_of_budget hb]
    cases p with
    | idle | flush | verify => exact ⟨nofun, by rintro (h | h) <;> cases h⟩
    | send => exact ⟨fun _ => List.nil_suffix, by rintro (h | h) <;> cases h⟩
    | rxHdr => exact ⟨nofun, fun _ => List.nil_suffix⟩
    | rxRest => exact ⟨nofun, fun _ => h rfl⟩
  · rw [enter_of_exhausted hb]
    exact streamsOk_of_idle rfl

theorem streamsOk_verify (s : State) (n : Nat) : StreamsOk (s.verify n) := by
  obtain ⟨-, -, hp, -⟩ := verify_frame s n
  exact streamsOk_of_idle hp

/-! ### Rounds -/

/-- The transport took the next bytes of TXBUF, and TX_WRITTEN counts them (R73, R177). -/
theorem txBytes_suffix_transmit {u : State} {c : Call} {k : Nat} (hlt : u.txWritten < u.txLen)
    (hk : k ≤ u.txLen.toNat - u.txWritten.toNat) (h : u.txBytes 0 u.txWritten.toNat <:+ u.txStream) :
    let v := (u.call c).transmit (u.txBytes u.txWritten.toNat u.txLen.toNat) k
    v.txBytes 0 v.txWritten.toNat <:+ v.txStream := by
  have hcount : (u.txWritten + BitVec.ofNat 16 k).toNat = u.txWritten.toNat + k := by
    have hlt : u.txWritten.toNat < u.txLen.toNat := hlt
    rw [BitVec.toNat_add, BitVec.toNat_ofNat]
    omega
  change u.txBytes 0 (u.txWritten + BitVec.ofNat 16 k).toNat <:+ u.txStream ++ _
  rw [hcount, ← txBytes_append_take u hk]
  exact List.suffix_append_self_iff.mpr h

/-- The bytes delivered are stored after those already received, and RX_COUNT counts them (R72, R178). -/
theorem rxBytes_suffix_receive {u : State} {c : Call} {bytes : List Byte} (hlt : u.rxCount < u.rxNeed)
    (hk : bytes.length ≤ u.rxNeed.toNat - u.rxCount.toNat) (h : u.rxBytes 0 u.rxCount.toNat <:+ u.rxStream) :
    let v := ((u.call c).deliver bytes).receive bytes
    v.rxBytes 0 v.rxCount.toNat <:+ v.rxStream := by
  have hcount : (u.rxCount + BitVec.ofNat 16 bytes.length).toNat = u.rxCount.toNat + bytes.length := by
    have hlt : u.rxCount.toNat < u.rxNeed.toNat := hlt
    rw [BitVec.toNat_add, BitVec.toNat_ofNat]
    omega
  have hstored : (((u.call c).deliver bytes).receive bytes).rxBytes 0 (u.rxCount.toNat + bytes.length) =
      u.rxBytes 0 u.rxCount.toNat ++ bytes := rxBytes_receive ((u.call c).deliver bytes) bytes
  dsimp only
  rw [receive_rxCount, deliver_rxCount, call_rxCount, hcount, hstored, receive_rxStream, deliver_rxStream]
  exact List.suffix_append_self_iff.mpr h

/-- While a frame is sent, the call and the transfer of a round keep the bytes sent in order (R80). -/
theorem Worked.txBytes_suffix {u v : State} (hv : Worked u v) (hp : u.phase = .send)
    (h : u.txBytes 0 u.txWritten.toNat <:+ u.txStream) : v.txBytes 0 v.txWritten.toNat <:+ v.txStream := by
  cases hv with
  | closed | called | delivered | flushed => exact h
  | sent c k _ hlt hk => exact txBytes_suffix_transmit hlt hk h
  | received c bytes hq => simp [hp] at hq

/-- A round of FLUSH or SEND keeps the relation: it goes on in its phase, or enters the next one. -/
theorem RoundCase.streamsOk {u t : State} (h : RoundCase u t) (hp : u.phase = .flush ∨ u.phase = .send) (hs : StreamsOk u) :
    StreamsOk t := by
  cases h with
  | failed | succeeded => exact streamsOk_of_idle rfl
  | ready c => exact hs
  | @again v hv =>
    have hphase : (v.setSub .poll).phase = u.phase := hv.phase
    refine ⟨fun hq => hv.txBytes_suffix (hphase ▸ hq) (hs.1 (hphase ▸ hq)), fun hq => ?_⟩
    rw [hphase] at hq
    rcases hp with hp | hp <;> simp [hp] at hq
  | toSend | toHeader => exact streamsOk_enter nofun
  | toRest hv hq => simp [hq] at hp
  | verified => exact streamsOk_verify _ _

/-- After the transfer of a receive round, the frame is complete, the round ends the command, or the bytes already received
stay where they are (R178, R183). -/
theorem streamsOk_of_afterTransfer {v t : State} {complete : Bool} (hp : v.phase = .rxHdr ∨ v.phase = .rxRest)
    (hs : v.rxBytes 0 v.rxCount.toNat <:+ v.rxStream) (h : afterTransfer v complete v.phase = .next t) : StreamsOk t := by
  unfold afterTransfer at h
  split at h
  · rcases hp with hp | hp <;> simp only [hp, phaseDone] at h
    · rw [exec_decodeHeader] at h
      cases h
      cases findPduLength (v.rx 1) (v.rx 2) with
      | unsupported | outOfRange => exact streamsOk_of_idle rfl
      | ok l => exact streamsOk_enter fun _ => hs
    · cases h
      exact streamsOk_verify _ _
  · split at h <;> cases h
    · exact streamsOk_of_idle rfl
    · exact ⟨fun hq => by rcases hp with hp | hp <;> simp [hp] at hq, fun _ => hs⟩

/-- A receive round stores what it was delivered, or ends the command (R178). -/
theorem streamsOk_of_recvRound {a : Option Answer} {u t : State} (hp : u.phase = .rxHdr ∨ u.phase = .rxRest)
    (hs : StreamsOk u) (h : recvRound a u = .next t) : StreamsOk t := by
  unfold recvRound at h
  split at h
  · simp only [pollRound] at h
    split at h <;> cases h
    · exact streamsOk_of_idle rfl
    · exact streamsOk_of_idle rfl
    · exact hs
  · split at h
    · next hlt =>
      dsimp only at h
      split at h
      · cases h; exact streamsOk_of_idle rfl
      · split at h
        · cases h; exact streamsOk_of_idle rfl
        · next hk =>
          refine streamsOk_of_afterTransfer ?_ (rxBytes_suffix_receive hlt.1 (not_lt.mp hk) (hs.2 hp)) h
          simpa using hp
    · cases h

theorem streamsOk_of_blockRound {a : Option Answer} {u t : State} (hi : Inv u) (hb : u.busy = true) (hs : StreamsOk u)
    (h : blockRound a u = .next t) : StreamsOk t := by
  obtain hl | hl := Bool.eq_false_or_eq_true u.linkOpen
  · obtain ⟨-, -, hrecv⟩ := blockRound_of_open hl a
    obtain ⟨⟨hphase, hverify, -⟩, -⟩ := hi
    cases hp : u.phase with
    | idle => exact absurd hp (hphase.mp hb)
    | verify => exact absurd hp hverify
    | flush => exact (blockRound_cases h).streamsOk (.inl hp) hs
    | send => exact (blockRound_cases h).streamsOk (.inr hp) hs
    | rxHdr => exact streamsOk_of_recvRound (.inl hp) hs (hrecv (.inl hp) ▸ h)
    | rxRest => exact streamsOk_of_recvRound (.inr hp) hs (hrecv (.inr hp) ▸ h)
  · rw [blockRound_of_closed hi hb hl] at h
    cases h
    exact streamsOk_of_idle rfl

/-! ### Host writes -/

/-- An accept on an idle block ends the command, or enters a phase that begins with no byte counted. -/
theorem AcceptCase.streamsOk {u t : State} (h : AcceptCase u t) : StreamsOk t := by
  cases h with
  | failed | crc | load | charge | build | pdulen => exact streamsOk_of_idle rfl
  | verify => exact streamsOk_verify _ _
  | flush | send | recv | xact => exact streamsOk_enter nofun

theorem WriteCase.streamsOk {u t : State} (h : WriteCase u t) (hp : u.phase = .idle) : StreamsOk t := by
  cases h with
  | command h => exact h.streamsOk
  | register h => rw [h]; exact streamsOk_of_idle hp
  | txByte i b hi h => rw [h]; exact streamsOk_of_idle hp
  | rxByte i b hi h => rw [h]; exact streamsOk_of_idle hp

theorem StreamsOk.passed {s t : State} (hs : StreamsOk s) (h : Passed s t) : StreamsOk t := by
  rw [h]; exact hs

/-- Settles O54: only a round moves bytes, and it counts those it sent or stored; a phase that counts bytes begins with none
or with the header's. -/
theorem stepKeepsTheStreamOrder : Obligations.StepKeepsTheStreamOrder := by
  intro s t hi hs h
  cases step_cases h with
  | reset _ hv => exact streamsOk_of_idle ((inv_of_atResetValues hv).phase_idle hv.1)
  | pass hp => exact hs.passed hp
  | write off w tgt v now rest hb ht h => exact (writeTarget_cases ht h).streamsOk (hi.phase_idle hb)
  | round a now rest hb h => exact streamsOk_of_blockRound (u := s.took rest now) hi hb hs h

end Sys2Proof.Machine
end

section
/-! SUPPORT. Which host accesses are taken, which are refused, and where the window stands (spec/20_memory.md R63, R64). -/

namespace Sys2Proof.Machine

/-! ### Admitted accesses -/

theorem inTxWindow_iff {a : Nat} : inTxWindow a = true ↔ 0x100 ≤ a ∧ a ≤ 0x203 := by
  simp only [inTxWindow, Bool.and_eq_true, decide_eq_true_eq, Config.txBase, Config.aduMax]
  omega

theorem inRxWindow_iff {a : Nat} : inRxWindow a = true ↔ 0x300 ≤ a ∧ a ≤ 0x403 := by
  simp only [inRxWindow, Bool.and_eq_true, decide_eq_true_eq, Config.rxBase, Config.aduMax]
  omega

/-- An access has no target exactly when R63 does not admit it: a register, a byte of TXBUF, a byte of RXBUF, or elsewhere. -/
theorem targetAt_eq_none_iff {off : BitVec 11} {w : Width} : targetAt off w = none ↔ ¬Admitted off w := by
  simp only [targetAt, inTxWindow_iff, inRxWindow_iff]
  split
  · grind
  · split
    · grind
    · split
      · grind
      · grind

/-- Every command word is accepted or rejected; none stops the machine (R113, R233). -/
theorem acceptCommand_answers_next (w : Word) (s : State) : ∃ t, acceptCommand w s = .next t := by
  unfold acceptCommand
  split
  · exact exec_answers_next _ s
  · exact ⟨_, rfl⟩

theorem writeTarget_answers_next (tgt : Target) (v : Word) (s : State) : ∃ t, writeTarget tgt v s = .next t := by
  cases tgt with
  | register r =>
    cases r with
    | cmd => exact acceptCommand_answers_next v s
    | _ => exact ⟨_, rfl⟩
  | txByte i => exact ⟨_, rfl⟩
  | rxByte i => exact ⟨_, rfl⟩

/-- An access outside R63 is refused, busy or idle. -/
theorem hostAccess_of_noTarget {off : BitVec 11} {x : Access} (h : targetAt off x.width = none) (s : State) :
    hostAccess off x s = .refused .hostAccess := by
  cases x <;> (rw [Access.width] at h; simp only [hostAccess, h])

/-- An admitted access is taken, busy or idle. -/
theorem hostAccess_answers_next {off : BitVec 11} {x : Access} {tgt : Target} (h : targetAt off x.width = some tgt)
    (s : State) : ∃ t, hostAccess off x s = .next t := by
  cases x with
  | read w =>
    rw [Access.width] at h
    simp only [hostAccess, h]
    exact ⟨_, rfl⟩
  | write w v =>
    rw [Access.width] at h
    simp only [hostAccess, h]
    split
    · exact ⟨_, rfl⟩
    · exact writeTarget_answers_next tgt v s

/-- An access outside R63 is refused during RESET too (log entry 14). -/
theorem hostAccessInReset_of_noTarget {off : BitVec 11} {x : Access} (h : targetAt off x.width = none) (s : State) :
    hostAccessInReset off x s = .refused .hostAccess := by
  cases x <;> (rw [Access.width] at h; simp only [hostAccessInReset, h])

/-- An admitted access is taken during RESET too (log entry 14). -/
theorem hostAccessInReset_answers_next {off : BitVec 11} {x : Access} {tgt : Target}
    (h : targetAt off x.width = some tgt) (s : State) : ∃ t, hostAccessInReset off x s = .next t := by
  cases x <;> (rw [Access.width] at h; simp only [hostAccessInReset, h]; exact ⟨_, rfl⟩)

/-- Settles O39: an access has a target exactly when R63 admits it; without one it is refused, with one it is taken. -/
theorem accessesAdmittedAndRefused : Obligations.AccessesAdmittedAndRefused := by
  intro s off x now rest hi
  rw [step_host hi]
  constructor
  · intro hno
    have hnone := targetAt_eq_none_iff.mpr hno
    rw [hostAccess_of_noTarget hnone, hostAccessInReset_of_noTarget hnone, ite_self]
  · intro hadm
    obtain ⟨tgt, htgt⟩ := Option.ne_none_iff_exists'.mp fun hnone => targetAt_eq_none_iff.mp hnone hadm
    split
    · exact hostAccessInReset_answers_next htgt _
    · exact hostAccess_answers_next htgt _

/-! ### The window -/

theorem toNat_blockBase : Config.blockBase.toNat = Config.blockPage.toNat * 2 ^ 11 := by
  have hpage := Config.blockPage.isLt
  simp only [Config.blockBase, BitVec.toNat_shiftLeft, BitVec.toNat_setWidth, Nat.shiftLeft_eq]
  omega

/-- An address that is not within 0x800 above BLOCK_BASE is no offset of the window (R64). -/
theorem windowOffset_eq_none {address : Word}
    (h : ¬(Config.blockBase.toNat ≤ address.toNat ∧ address.toNat < Config.blockBase.toNat + 0x800)) :
    windowOffset address = none := by
  refine if_neg fun hpage => h ?_
  have hnat := congrArg BitVec.toNat hpage
  have hlt := address.isLt
  rw [BitVec.extractLsb'_toNat, Nat.shiftRight_eq_div_pow] at hnat
  rw [toNat_blockBase]
  omega

/-- A step that takes an access outside the window changes nothing but the time (log entry 13). -/
theorem step_bus_outside {s : State} {address : Word} {x : Access} {now : Word} {rest : List Input}
    (hr : s.resetAsserted = false) (h : s.inputs = .bus address x now :: rest) (hw : windowOffset address = none) :
    step s = .next (s.took rest now) := by
  simp only [step, h, takeInput, hw, setNow_resetAsserted, setInputs_resetAsserted, hr]
  rfl

/-- Settles O42: an address is split at bit 11 into the page of the window and the offset. -/
theorem windowStandsAtBlockBase : Obligations.WindowStandsAtBlockBase := by
  constructor
  · rw [toNat_blockBase]
    omega
  · refine fun s x now rest => ⟨fun off => ?_, fun address hr hout hi => ?_⟩
    · rw [step_bus rfl (windowOffset_blockBase_add off), step_host rfl]
      rfl
    · exact step_bus_outside hr hi (windowOffset_eq_none hout)

end Sys2Proof.Machine
end

section
/-! SUPPORT. The decoder as a table: each command opcode with its word format, so that a fact about a format is a fact about
every command of that format (spec/30_encoding.md R110, R112); and each response header as the decode of its function code
(R95). -/

namespace Sys2Proof.Machine

/-! ### The word formats (R110) -/

/-- A word format, with the instruction it makes of its fields. -/
inductive WordFormat where
  | z (i : Instr)
  | b (mk : Byte → Instr)
  | n (mk : Half → Instr)
  | p (mk : Byte → Byte → Instr)

namespace WordFormat

/-- The bits of a word that the format reserves. -/
def reserved : WordFormat → Word
  | z _ => 0xFFFFFF00
  | b _ => 0xFFFF0000
  | n _ => 0x0000FF00
  | p _ => 0xFF000000

/-- The instruction of a word's fields. -/
def read (w : Word) : WordFormat → Instr
  | z i => i
  | b mk => mk (fieldA8 w)
  | n mk => mk (fieldN16 w)
  | p mk => mk (fieldA8 w) (fieldB8 w)

/-- The model's decoder of the format. -/
def decodeWord (w : Word) : WordFormat → Except DecodeError Instr
  | z i => formatZ w i
  | b mk => formatB w mk
  | n mk => formatN w mk
  | p mk => formatP w mk

/-- The model's encoder of the format, on an opcode and the fields of a word. -/
def encodeFields (op : Byte) (w : Word) : WordFormat → Code
  | z _ => encodeZ op
  | b _ => encodeB op (fieldA8 w)
  | n _ => encodeN op (fieldN16 w)
  | p _ => encodeP op (fieldA8 w) (fieldB8 w)

end WordFormat

/-- A word with no bit of a mask has a 0 wherever the mask has a 1. -/
theorem getLsbD_of_and_eq_zero {w m : Word} (h : w &&& m = 0) (k : Nat) : (w.getLsbD k && m.getLsbD k) = false := by
  simpa using congrArg (·.getLsbD k) h

/-- A field of a word is 0 exactly when the word has no bit in common with the field's mask. -/
theorem extractLsb'_eq_zero_iff {start len : Nat} (h : start + len ≤ 32) (w : Word) :
    w.extractLsb' start len = 0 ↔ w &&& (BitVec.allOnes len).setWidth 32 <<< start = 0 := by
  constructor
  · intro h0
    ext k hk
    by_cases hs : start ≤ k
    · have hbit := congrArg (·.getLsbD (k - start)) h0
      simp only [BitVec.getLsbD_extractLsb', Nat.add_sub_cancel' hs] at hbit
      by_cases hl : k - start < len <;> simp_all
    · simp_all
  · intro h0
    ext k hk
    have hbit := getLsbD_of_and_eq_zero h0 (start + k)
    simpa [hk, show start + k < 32 by omega] using hbit

/-- The check of a reserved field, as one of the word's bits under the field's mask. -/
theorem ifReservedZero_field {start len : Nat} (h : start + len ≤ 32) (w : Word) (i : Instr) :
    ifReservedZero (w.extractLsb' start len == 0) i =
      if w &&& (BitVec.allOnes len).setWidth 32 <<< start = 0 then .ok i else .error .reservedBits := by
  simp only [ifReservedZero, beq_iff_eq, extractLsb'_eq_zero_iff h]

/-- A format decodes a word to the instruction of its fields, unless a reserved bit of it is 1 (R113). -/
theorem WordFormat.decodeWord_eq (f : WordFormat) (w : Word) :
    f.decodeWord w = if w &&& f.reserved = 0 then .ok (f.read w) else .error .reservedBits := by
  cases f with
  | z i => exact ifReservedZero_field (by decide) w _
  | b mk => exact ifReservedZero_field (by decide) w _
  | n mk => exact ifReservedZero_field (by decide) w _
  | p mk => exact ifReservedZero_field (by decide) w _

/-! Encoding the opcode and the fields of a word gives the word back, the format's reserved bits cleared. -/

theorem encodeZ_fields (w : Word) : encodeZ (opcodeOf w) = .command (w &&& ~~~0xFFFFFF00#32) := by
  refine congrArg Code.command ?_
  ext k hk
  interval_cases k <;> simp [opcodeOf]

theorem encodeB_fields (w : Word) : encodeB (opcodeOf w) (fieldA8 w) = .command (w &&& ~~~0xFFFF0000#32) := by
  refine congrArg Code.command ?_
  ext k hk
  interval_cases k <;> simp [opcodeOf, fieldA8]

theorem encodeN_fields (w : Word) : encodeN (opcodeOf w) (fieldN16 w) = .command (w &&& ~~~0x0000FF00#32) := by
  refine congrArg Code.command ?_
  ext k hk
  interval_cases k <;> simp [opcodeOf, fieldN16]

theorem encodeP_fields (w : Word) : encodeP (opcodeOf w) (fieldA8 w) (fieldB8 w) = .command (w &&& ~~~0xFF000000#32) := by
  refine congrArg Code.command ?_
  ext k hk
  interval_cases k <;> simp [opcodeOf, fieldA8, fieldB8]

theorem WordFormat.encodeFields_opcodeOf (f : WordFormat) (w : Word) :
    f.encodeFields (opcodeOf w) w = .command (w &&& ~~~f.reserved) := by
  cases f with
  | z i => exact encodeZ_fields w
  | b mk => exact encodeB_fields w
  | n mk => exact encodeN_fields w
  | p mk => exact encodeP_fields w

/-- Clearing bits that a word does not have changes nothing. -/
theorem and_not_eq_self {w m : Word} (h : w &&& m = 0) : w &&& ~~~m = w := by
  ext k hk
  have hbit := getLsbD_of_and_eq_zero h k
  simp_all

/-- A format N word holds its opcode and its length, and its reserved byte is 0 (R110). -/
theorem formatN_fields (op : Byte) (n : Half) :
    opcodeOf (n.setWidth 32 <<< 16 ||| op.setWidth 32) = op ∧ fieldN16 (n.setWidth 32 <<< 16 ||| op.setWidth 32) = n ∧
      (n.setWidth 32 <<< 16 ||| op.setWidth 32 : Word).extractLsb' 8 8 = 0 := by
  refine ⟨?_, ?_, ?_⟩ <;> ext k hk <;> interval_cases k <;> simp [opcodeOf, fieldN16]

/-- A format P word holds its opcode and its two bytes, and its reserved byte is 0 (R110). -/
theorem formatP_fields (op a b : Byte) :
    opcodeOf (b.setWidth 32 <<< 16 ||| a.setWidth 32 <<< 8 ||| op.setWidth 32) = op ∧
      fieldA8 (b.setWidth 32 <<< 16 ||| a.setWidth 32 <<< 8 ||| op.setWidth 32) = a ∧
      fieldB8 (b.setWidth 32 <<< 16 ||| a.setWidth 32 <<< 8 ||| op.setWidth 32) = b ∧
      (b.setWidth 32 <<< 16 ||| a.setWidth 32 <<< 8 ||| op.setWidth 32 : Word).extractLsb' 24 8 = 0 := by
  refine ⟨?_, ?_, ?_, ?_⟩ <;> ext k hk <;> interval_cases k <;> simp [opcodeOf, fieldA8, fieldB8]

/-! ### The commands (R112) -/

/-- The opcode map of R112, with each command's format. -/
def commandTable : List (Byte × WordFormat) :=
  [(Opcode.crcInit, .z .crcInit), (Opcode.crcByte, .b .crcByte), (Opcode.crcTxbuf, .n .crcTxbuf),
   (Opcode.crcRxbuf, .n .crcRxbuf), (Opcode.budgetLoad, .z .budgetLoad), (Opcode.budgetCharge, .z .budgetCharge),
   (Opcode.frameBuild, .n .frameBuild), (Opcode.framePdulen, .p .framePdulen), (Opcode.frameVerify, .n .frameVerify),
   (Opcode.frameFlush, .z .frameFlush), (Opcode.frameSend, .z .frameSend), (Opcode.frameRecv, .z .frameRecv),
   (Opcode.frameXact, .n .frameXact)]

theorem opcodeMap_eq : opcodeMap = commandTable.map fun p => (p.1, p.2.reserved) := rfl

/-- The opcode of a row selects the decoder of its format. -/
theorem decodeCommand_of_row {w : Word} : ∀ p ∈ commandTable, opcodeOf w = p.1 → decodeCommand w = p.2.decodeWord w := by
  simp only [commandTable, List.forall_mem_cons]
  refine ⟨?_, ?_, ?_, ?_, ?_, ?_, ?_, ?_, ?_, ?_, ?_, ?_, ?_, List.forall_mem_nil _⟩ <;> intro h <;>
    (rw [decodeCommand, h]; rfl)

/-- An opcode without a row is reserved. -/
theorem decodeCommand_of_noRow {w : Word} (h : opcodeOf w ∉ commandTable.map Prod.fst) :
    decodeCommand w = .error .reservedOpcode := by
  simp only [commandTable, List.map_cons, List.map_nil, List.mem_cons, List.not_mem_nil, or_false, not_or] at h
  simp only [decodeCommand, h, if_false]

/-- The encoder writes the fields of a row's instruction in the row's format. -/
theorem encode_read_of_row (w : Word) : ∀ p ∈ commandTable, encode (p.2.read w) = p.2.encodeFields p.1 w := by
  simp only [commandTable, List.forall_mem_cons]
  exact ⟨rfl, rfl, rfl, rfl, rfl, rfl, rfl, rfl, rfl, rfl, rfl, rfl, rfl, List.forall_mem_nil _⟩

/-- An opcode has one row. -/
theorem commandTable_unique : ∀ p ∈ commandTable, ∀ q ∈ commandTable, p.1 = q.1 → p = q :=
  List.inj_on_of_nodup_map (by decide)

/-- What a command word decodes to, by the row of its opcode (R113, R115). -/
inductive WordCase (w : Word) : Except DecodeError Instr → Prop
  | reservedOpcode (h : ∀ m, (opcodeOf w, m) ∉ opcodeMap) : WordCase w (.error .reservedOpcode)
  | reservedBits {f : WordFormat} (hf : (opcodeOf w, f) ∈ commandTable) (h : w &&& f.reserved ≠ 0) :
      WordCase w (.error .reservedBits)
  | command {f : WordFormat} (hf : (opcodeOf w, f) ∈ commandTable) (h : w &&& f.reserved = 0) : WordCase w (.ok (f.read w))

theorem mem_opcodeMap_iff {op : Byte} {m : Word} : (op, m) ∈ opcodeMap ↔ ∃ f, (op, f) ∈ commandTable ∧ f.reserved = m := by
  simp [opcodeMap_eq]

/-- The decode of a word in the row of its opcode. -/
theorem decode_of_row {w : Word} {f : WordFormat} (hf : (opcodeOf w, f) ∈ commandTable) :
    decode (.command w) = if w &&& f.reserved = 0 then .ok (f.read w) else .error .reservedBits :=
  (decodeCommand_of_row _ hf rfl).trans (f.decodeWord_eq w)

/-- The decode of a word whose opcode no row has. -/
theorem decode_of_noRow {w : Word} (h : ∀ m, (opcodeOf w, m) ∉ opcodeMap) :
    decode (.command w) = .error .reservedOpcode := by
  refine decodeCommand_of_noRow fun hmem => ?_
  obtain ⟨p, hp, hop⟩ := List.mem_map.mp hmem
  exact h _ (mem_opcodeMap_iff.mpr ⟨p.2, hop ▸ hp, rfl⟩)

/-- Every command word is one of the cases. -/
theorem decode_cases (w : Word) : WordCase w (decode (.command w)) := by
  by_cases hrow : ∃ f, (opcodeOf w, f) ∈ commandTable
  · obtain ⟨f, hf⟩ := hrow
    rw [decode_of_row hf]
    split
    · next hz => exact .command hf hz
    · next hz => exact .reservedBits hf hz
  · have hno : ∀ m, (opcodeOf w, m) ∉ opcodeMap := fun m hm =>
      let ⟨f, hf, _⟩ := mem_opcodeMap_iff.mp hm
      hrow ⟨f, hf⟩
    rw [decode_of_noRow hno]
    exact .reservedOpcode hno

/-! ### The words of the commands -/

theorem decode_encodeN {op : Byte} {mk : Half → Instr} (h : (op, .n mk) ∈ commandTable) (n : Half) :
    decode (encodeN op n) = .ok (mk n) := by
  obtain ⟨hop, hn, hz⟩ := formatN_fields op n
  refine (decodeCommand_of_row _ h hop).trans ?_
  rw [WordFormat.decodeWord, formatN, hn, hz]
  rfl

theorem decode_encodeP {op : Byte} {mk : Byte → Byte → Instr} (h : (op, .p mk) ∈ commandTable) (a b : Byte) :
    decode (encodeP op a b) = .ok (mk a b) := by
  obtain ⟨hop, ha, hb, hz⟩ := formatP_fields op a b
  refine (decodeCommand_of_row _ h hop).trans ?_
  rw [WordFormat.decodeWord, formatP, ha, hb, hz]
  rfl

/-- The decoder reads a command's word back (R112). -/
theorem decode_encode_of_isCommand {i : Instr} (h : IsCommand i) : decode (encode i) = .ok i := by
  cases h with
  | crcInit => rfl
  | crcByte b => exact decode_crcByte b
  | crcTxbuf n => exact decode_encodeN (by simp [commandTable]) n
  | crcRxbuf n => exact decode_encodeN (by simp [commandTable]) n
  | budgetLoad => rfl
  | budgetCharge => rfl
  | frameBuild n => exact decode_encodeN (by simp [commandTable]) n
  | framePdulen fc bc => exact decode_encodeP (by simp [commandTable]) fc bc
  | frameVerify n => exact decode_encodeN (by simp [commandTable]) n
  | frameFlush => rfl
  | frameSend => rfl
  | frameRecv => rfl
  | frameXact n => exact decode_encodeN (by simp [commandTable]) n

/-! ### The headers of the responses (R95) -/

theorem decodeHeader_of_msb {fc : Byte} (h : fc.msb = true) (bc : Byte) :
    decodeHeader fc bc = .respExc (fc.setWidth 7) bc := if_pos h

/-- An exception response's function code holds its low bits, below bit 7 (R93). -/
theorem exceptionCode_fields (low : BitVec 7) :
    (0x80#8 ||| low.setWidth 8).msb = true ∧ (0x80#8 ||| low.setWidth 8).setWidth 7 = low := by
  refine ⟨by rw [BitVec.msb_or]; rfl, ?_⟩
  ext k hk
  interval_cases k <;> simp

/-- A function code with bit 7 is that of an exception response (R93). -/
theorem exceptionCode_of_msb {fc : Byte} (h : fc.msb = true) : 0x80#8 ||| (fc.setWidth 7).setWidth 8 = fc := by
  ext k hk
  rw [BitVec.msb_eq_getLsbD_last] at h
  interval_cases k <;> simp_all

/-- Each row of the header table is the row its encoding names. -/
theorem encode_headerRow {k : Nat} (hk : k < 128) (bc : Byte) :
    encode ((headerRows.getD k .respUnsup00) bc) = .header (BitVec.ofNat 8 k) bc := by
  interval_cases k <;> rfl

/-- The encoder writes back the header that an instruction was decoded from. -/
theorem encode_decodeHeader (fc bc : Byte) : encode (decodeHeader fc bc) = .header fc bc := by
  cases hm : fc.msb with
  | true =>
    rw [decodeHeader_of_msb hm]
    exact congrArg (Code.header · bc) (exceptionCode_of_msb hm)
  | false =>
    rw [decodeHeader, if_neg (by simp [hm]), encode_headerRow (by simpa [BitVec.msb_eq_decide] using hm)]
    simp

/-! ### The two directions -/

/-- Settles O1: a command by the format of its row, an exception header by its bits, every other header by its row. -/
theorem decodeOfEncode : Obligations.DecodeOfEncode := by
  intro i
  cases i
  case respExc low b2 =>
    obtain ⟨hm, hlow⟩ := exceptionCode_fields low
    exact congrArg Except.ok ((decodeHeader_of_msb hm b2).trans (congrArg (Instr.respExc · b2) hlow))
  case crcInit | crcByte | crcTxbuf | crcRxbuf | budgetLoad | budgetCharge | frameBuild | framePdulen | frameVerify
      | frameFlush | frameSend | frameRecv | frameXact =>
    exact decode_encode_of_isCommand (by constructor)
  all_goals rfl

/-- Settles O2: a word is made of its opcode and fields when its reserved bits are 0, and a header is that of its row. -/
theorem encodeOfDecode : Obligations.EncodeOfDecode := by
  intro c i h
  cases c with
  | command w =>
    have hc := decode_cases w
    rw [h] at hc
    cases hc with
    | command hf hz => rw [encode_read_of_row w _ hf, WordFormat.encodeFields_opcodeOf, and_not_eq_self hz]
  | header fc bc =>
    cases h
    exact encode_decodeHeader fc bc

/-- Settles O3: each of the words and headers is the encoding of the instruction named with it. -/
theorem sampleWordsDecode : Obligations.SampleWordsDecode :=
  ⟨decodeOfEncode (.crcByte 0x01), decodeOfEncode (.crcTxbuf 6), decodeOfEncode .budgetLoad, decodeOfEncode (.frameBuild 5),
    decodeOfEncode (.framePdulen 0x03 0x02), decodeOfEncode (.frameVerify 7), decodeOfEncode (.frameXact 5),
    decodeOfEncode (.respBc03 0x02), decodeOfEncode (.respFix16 0x00), decodeOfEncode (.respUnsup2B 0x0E),
    decodeOfEncode (.respExc 0x03 0x02)⟩

/-! ### The classes of the command words -/

/-- A row's opcode has the reserved bits of the row and no others. -/
theorem reserved_eq_of_mem_opcodeMap {op : Byte} {f : WordFormat} {m : Word} (hf : (op, f) ∈ commandTable)
    (hm : (op, m) ∈ opcodeMap) : f.reserved = m := by
  obtain ⟨g, hg, rfl⟩ := mem_opcodeMap_iff.mp hm
  cases commandTable_unique _ hf _ hg rfl
  rfl

/-- Settles O4: the three answers exclude each other, and so do the three classes. -/
theorem commandWordsAreClassified : Obligations.CommandWordsAreClassified := by
  intro w
  change (_ ↔ ∀ m, (opcodeOf w, m) ∉ opcodeMap) ∧ (_ ↔ ∃ m, (opcodeOf w, m) ∈ opcodeMap ∧ _) ∧
    (_ ↔ ∃ m, (opcodeOf w, m) ∈ opcodeMap ∧ _)
  have hc := decode_cases w
  generalize decode (.command w) = answer at hc ⊢
  cases hc with
  | reservedOpcode h =>
    exact ⟨iff_of_true rfl h, iff_of_false nofun fun ⟨m, hm, _⟩ => h m hm, iff_of_false nofun fun ⟨m, hm, _⟩ => h m hm⟩
  | reservedBits hf h =>
    have hrow := mem_opcodeMap_iff.mpr ⟨_, hf, rfl⟩
    exact ⟨iff_of_false nofun fun hno => hno _ hrow, iff_of_true rfl ⟨_, hrow, h⟩,
      iff_of_false nofun fun ⟨m, hm, hz⟩ => h (reserved_eq_of_mem_opcodeMap hf hm ▸ hz)⟩
  | command hf h =>
    have hrow := mem_opcodeMap_iff.mpr ⟨_, hf, rfl⟩
    exact ⟨iff_of_false nofun fun hno => hno _ hrow,
      iff_of_false nofun fun ⟨m, hm, hz⟩ => hz (reserved_eq_of_mem_opcodeMap hf hm ▸ h), iff_of_true ⟨_, rfl⟩ ⟨_, hrow, h⟩⟩

/-! ### Illegal words (R113) -/

/-- Every opcode of R27 is one of R112. -/
theorem exists_mem_opcodeMap_of_mem_receiveOps {op : Byte} (h : op ∈ receiveOps) : ∃ m, (op, m) ∈ opcodeMap := by
  have hall : ∀ op ∈ receiveOps, op ∈ opcodeMap.map Prod.fst := by decide
  simpa using hall op h

/-- A rejected word ends as a failed accept-time check does. -/
theorem acceptCommand_of_error {w : Word} {e : DecodeError} {s : State} (hs : Idle s) (h : decode (.command w) = .error e) :
    acceptCommand w s = .next ((if opcodeOf w ∈ receiveOps then s.dropFrame else s).reported (opcodeOf w) .invalidOperation
      (rejectDetail e) .idle) := by
  rw [← finish_accept_of_idle hs, acceptCommand, h]
  rfl

/-- A command of R112's length ranges ends a length outside its range with detail 3. -/
theorem exec_of_illegal_length : ∀ q ∈ lengthMap, ∃ mk, (q.1, WordFormat.n mk) ∈ commandTable ∧
    ∀ (n : Half) (s : State), ¬(q.2.1 ≤ n.toNat ∧ n.toNat ≤ q.2.2) →
      exec (mk n) s = .next ((s.accept q.1).finish .invalidOperation 3) := by
  simp only [lengthMap, List.forall_mem_cons]
  exact ⟨⟨.crcTxbuf, by simp [commandTable], fun n s h => congrArg _ (withLength_of_illegal h _ _)⟩,
    ⟨.crcRxbuf, by simp [commandTable], fun n s h => congrArg _ (withLength_of_illegal h _ _)⟩,
    ⟨.frameBuild, by simp [commandTable], fun n s h => congrArg _ (withLength_of_illegal h _ _)⟩,
    ⟨.frameVerify, by simp [commandTable], fun n s h => congrArg _ (withLength_of_illegal h _ _)⟩,
    ⟨.frameXact, by simp [commandTable], fun n s h => congrArg _ (withLength_of_illegal h _ _)⟩, List.forall_mem_nil _⟩

/-- Settles O8: the decode of the word by its class, and the end of a failed check on an idle block. -/
theorem illegalWordsCompleteAtOnce : Obligations.IllegalWordsCompleteAtOnce := by
  intro s w hs op n u
  refine ⟨fun hno => ?_, fun m hm hz => ?_, fun m lo hi hm hz hlen hn => ?_⟩
  · have hop : opcodeOf w ∉ receiveOps := fun h =>
      let ⟨m, hm⟩ := exists_mem_opcodeMap_of_mem_receiveOps h
      hno m hm
    rw [acceptCommand_of_error hs (decode_of_noRow hno), if_neg hop]
    rfl
  · obtain ⟨f, hf, rfl⟩ := mem_opcodeMap_iff.mp hm
    exact acceptCommand_of_error hs ((decode_of_row hf).trans (if_neg hz))
  · obtain ⟨mk, hf, hexec⟩ := exec_of_illegal_length _ hlen
    have hd := (decode_of_row hf).trans (if_pos (reserved_eq_of_mem_opcodeMap hf hm ▸ hz))
    rw [acceptCommand, hd]
    exact (hexec n s hn).trans (congrArg _ (finish_accept_of_idle hs _ _ _))

end Sys2Proof.Machine
end

section
/-! SUPPORT. The response headers: each list of R95's table as the decode of its function codes, and the end of a header by
its inferred length (spec/42_framer.md R173, R183). -/

namespace Sys2Proof.Machine

/-! ### The rows of each class (R95) -/

/-- The function codes of class FIX, with their PDU lengths. -/
def fixedCodes : List (Byte × Nat) :=
  [(0x0F, 5), (0x10, 5), (0x05, 5), (0x06, 5), (0x16, 7), (0x0B, 5), (0x11, 5), (0x08, 5)]

/-- The function codes of class UNSUP with high digit `k`. -/
def unsupportedRow (k : Nat) : List Byte :=
  ((List.range' (16 * k) 16).map (BitVec.ofNat 8)).filter fun fc => respClass fc = .unsupported

/-- The function codes of class UNSUP, 0x00 to 0x7F without the codes of the other classes. -/
def unsupportedCodes : List Byte := [0, 1, 2, 3, 4, 5, 6, 7].flatMap unsupportedRow

theorem byteCountHeaders_eq (bc : Byte) : byteCountHeaders bc = byteCountCodes.map (decodeHeader · bc) := rfl

theorem fixedHeaders_eq (b2 : Byte) : fixedHeaders b2 = fixedCodes.map fun p => (decodeHeader p.1 b2, p.2) := rfl

theorem unsupportedHeaders_eq (b2 : Byte) : unsupportedHeaders b2 = unsupportedCodes.map (decodeHeader · b2) := by
  simp only [unsupportedHeaders, unsupportedCodes, List.flatMap_cons, List.flatMap_nil, List.append_nil, List.map_append,
    List.append_assoc]
  rfl

theorem respClass_of_byteCount : ∀ fc ∈ byteCountCodes, respClass fc = .byteCount := by decide

theorem respClass_of_fixed : ∀ p ∈ fixedCodes, respClass p.1 = .fixed p.2 := by decide

theorem msb_eq_true_iff {fc : Byte} : fc.msb = true ↔ 0x80 ≤ fc := by
  rw [BitVec.msb_eq_decide, decide_eq_true_eq, BitVec.le_def]
  rfl

theorem mem_unsupportedCodes_iff {fc : Byte} : fc ∈ unsupportedCodes ↔ respClass fc = .unsupported := by
  constructor
  · intro h
    obtain ⟨k, -, hk⟩ := List.mem_flatMap.mp h
    exact of_decide_eq_true (List.mem_filter.mp hk).2
  · intro h
    have hlt : fc.toNat < 128 := by
      by_contra hge
      have hm : fc.msb = true := msb_eq_true_iff.mpr (BitVec.le_def.mpr (not_lt.mp hge))
      simp [respClass, hm] at h
    have hrow : fc.toNat / 16 ∈ List.range 8 := List.mem_range.mpr (by omega)
    have hcol : fc.toNat ∈ List.range' (16 * (fc.toNat / 16)) 16 := List.mem_range'_1.mpr (by omega)
    exact List.mem_flatMap.mpr ⟨_, hrow, List.mem_filter.mpr ⟨List.mem_map.mpr ⟨_, hcol, by simp⟩, decide_eq_true h⟩⟩

/-- Settles O5: each list of the table is the decode of the function codes of its class. -/
theorem headersAreClassified : Obligations.HeadersAreClassified := by
  intro fc bc
  refine ⟨decodeHeader fc bc, rfl, fun h => ?_, fun h => ?_, fun h => ?_, fun h => ?_, fun hlt h => ?_⟩
  · exact decodeHeader_of_msb (msb_eq_true_iff.mpr h) bc
  · rw [byteCountHeaders_eq]
    exact List.mem_map_of_mem h
  · have hfive : ∀ fc ∈ fixedFiveCodes, (fc, 5) ∈ fixedCodes := by decide
    rw [fixedHeaders_eq]
    exact List.mem_map.mpr ⟨_, hfive fc h, rfl⟩
  · rw [fixedHeaders_eq, h]
    exact List.mem_map.mpr ⟨(0x16, 7), by decide, rfl⟩
  · have hm : ¬fc.msb = true := fun hm => BitVec.not_lt.mpr (msb_eq_true_iff.mp hm) hlt
    rw [unsupportedHeaders_eq]
    refine List.mem_map_of_mem (mem_unsupportedCodes_iff.mpr ?_)
    simp only [List.mem_cons, List.not_mem_nil, or_false, not_or] at h
    simp only [respClass, hm, byteCountCodes, fixedFiveCodes, List.mem_cons, List.not_mem_nil, or_self, h, if_false,
      Bool.false_eq_true]

/-! ### The end of a header (R183) -/

/-- A header with a length enters RX_REST while there is budget. -/
theorem headerEnd_of_budget {s : State} (h : 0 < s.budget.toInt) (l : Nat) :
    headerEnd (.ok l) s = { s with rxNeed := BitVec.ofNat 16 (l + 3), phase := .rxRest, sub := .poll } :=
  enter_of_budget (s := s.setRxNeed (l + 3)) h

/-- A header with a length ends the receive on an exhausted budget. -/
theorem headerEnd_of_exhausted {s : State} (h : s.budget.toInt ≤ 0) (l : Nat) :
    headerEnd (.ok l) s = { s with rxNeed := BitVec.ofNat 16 (l + 3), phase := .rxRest }.finish .timeout 1 :=
  enter_of_exhausted (s := s.setRxNeed (l + 3)) h

theorem findPduLength_of_fixed {p : Byte × Nat} (hp : p ∈ fixedCodes) (bc : Byte) : findPduLength p.1 bc = .ok p.2 := by
  rw [findPduLength, respClass_of_fixed p hp]

theorem findPduLength_of_unsupported {fc : Byte} (h : fc ∈ unsupportedCodes) (bc : Byte) :
    findPduLength fc bc = .unsupported := by
  rw [findPduLength, mem_unsupportedCodes_iff.mp h]

theorem findPduLength_of_byteCount {fc : Byte} (h : fc ∈ byteCountCodes) (bc : Byte) :
    findPduLength fc bc = byteCountLength bc := by
  rw [findPduLength, respClass_of_byteCount fc h]

theorem byteCountLength_of_legal {bc : Byte} (h : bc.toNat ≤ 251) : byteCountLength bc = .ok (2 + bc.toNat) :=
  if_pos ⟨by omega, by change _ ≤ 253; omega⟩

theorem byteCountLength_of_illegal {bc : Byte} (h : 252 ≤ bc.toNat) : byteCountLength bc = .outOfRange :=
  if_neg fun hle => by change _ ∧ _ ≤ 253 at hle; omega

/-- The received bytes of a class BC frame: address, function code and byte count, `bc` bytes, and the CRC (R97). -/
theorem byteCountNeed_eq (bc : Byte) : BitVec.ofNat 16 (2 + bc.toNat + 3) = 5 + bc.setWidth 16 := by
  apply BitVec.eq_of_toNat_eq
  simp
  omega

/-- Settles O23: the class's length is 2 more than the byte count, or out of range. -/
theorem byteCountHeadersResult : Obligations.ByteCountHeadersResult := by
  intro s bc i hi
  rw [byteCountHeaders_eq] at hi
  obtain ⟨fc, hfc, rfl⟩ := List.mem_map.mp hi
  rw [exec_decodeHeader, findPduLength_of_byteCount hfc]
  refine ⟨fun hle hb => ?_, fun hle hb => ?_, fun hge => ?_⟩
  · rw [byteCountLength_of_legal hle, headerEnd_of_budget hb, byteCountNeed_eq]
  · rw [byteCountLength_of_legal hle, headerEnd_of_exhausted hb, byteCountNeed_eq]
  · rw [byteCountLength_of_illegal hge]
    rfl

/-- Settles O22: an exception response has a PDU of 2 bytes. -/
theorem exceptionHeaderResult : Obligations.ExceptionHeaderResult := fun _ _ _ =>
  ⟨fun hb => congrArg _ (headerEnd_of_budget hb 2), fun hb => congrArg _ (headerEnd_of_exhausted hb 2)⟩

/-- Settles O24: the length is the table's. -/
theorem fixedHeadersResult : Obligations.FixedHeadersResult := by
  intro s b2 p hp
  rw [fixedHeaders_eq] at hp
  obtain ⟨q, hq, rfl⟩ := List.mem_map.mp hp
  rw [exec_decodeHeader, findPduLength_of_fixed hq]
  exact ⟨fun hb => congrArg _ (headerEnd_of_budget hb _), fun hb => congrArg _ (headerEnd_of_exhausted hb _)⟩

/-- Settles O25: the class has no length. -/
theorem unsupportedHeadersResult : Obligations.UnsupportedHeadersResult := by
  intro s b2 i hi
  rw [unsupportedHeaders_eq] at hi
  obtain ⟨fc, hfc, rfl⟩ := List.mem_map.mp hi
  rw [exec_decodeHeader, findPduLength_of_unsupported hfc]
  rfl

end Sys2Proof.Machine
end

section
/-! SUPPORT. The pseudo-instructions CRC.OVER and PDU of spec/30_encoding.md R118, as the host accesses they stand for. -/

namespace Sys2Proof.Machine

/-- A step that takes the write of CRC.INIT on an idle block sets the accumulator and leaves the block idle (R131). -/
theorem step_crcInit {s : State} {now : Word} {rest : List Input} (hidle : Idle s) (hr : s.resetAsserted = false)
    (hi : s.inputs = commandInput now .crcInit :: rest) :
    step s = .next (((s.took rest now).accept Opcode.crcInit).setCrc Config.crcInit).finishOk :=
  (step_write hidle.1 hr hi rfl).trans rfl

/-- Settles O30: CRC.INIT, then the CRC.BYTE sequence from 0xFFFF. -/
theorem crcOverLeavesTheCrc : Obligations.CrcOverLeavesTheCrc := by
  intro s bytes now rest hidle hr hi
  rw [runSteps, step_crcInit hidle hr hi]
  exact runSteps_crcBytes ⟨rfl, rfl, rfl⟩ hr rfl

/-- A step that takes a write to a byte of TXBUF on an idle block is that write (R49, R65). -/
theorem step_txByte {s : State} {i : Nat} {b : Byte} {now : Word} {rest : List Input} (hb : s.busy = false)
    (hr : s.resetAsserted = false) (hlt : i < 260)
    (hi : s.inputs = .host (BitVec.ofNat 11 (0x100 + i)) (.write .w8 (b.setWidth 32)) now :: rest) :
    step s = .next ((s.took rest now).setByte (Config.txBase + i) b) := by
  rw [step_write hb hr hi (targetAt_txByte hlt), writeTarget, BitVec.setWidth_setWidth_of_le _ (by decide), BitVec.setWidth_eq]

theorem txBytes_cons (s : State) (i n : Nat) : s.txBytes i (i + (n + 1)) = s.tx i :: s.txBytes (i + 1) (i + 1 + n) := by
  simp [State.txBytes, List.range'_succ]

/-- The byte writes of a PDU line, from a byte of TXBUF on. -/
theorem runSteps_pduInputs {s : State} {i : Nat} {bytes : List Byte} {now : Word} {rest : List Input} (hb : s.busy = false)
    (hr : s.resetAsserted = false) (hlen : i + bytes.length ≤ 260) (hi : s.inputs = pduInputs now (0x100 + i) bytes ++ rest) :
    ∃ t, runSteps bytes.length s = .next t ∧
      t = { s with inputs := rest, now := if bytes = [] then s.now else now, mem := t.mem } ∧
      t.txBytes i (i + bytes.length) = bytes ∧
      ∀ a, a < 0x100 + i ∨ 0x100 + i + bytes.length ≤ a → t.byteAt a = s.byteAt a := by
  induction bytes generalizing s i with
  | nil => exact ⟨s, rfl, by rw [← show s.inputs = rest from hi]; rfl, by simp [State.txBytes], fun _ _ => rfl⟩
  | cons b bytes ih =>
    rw [List.length_cons] at hlen
    obtain ⟨t, hrun, ht, hbytes, hother⟩ := ih (s := (s.took (pduInputs now (0x100 + (i + 1)) bytes ++ rest) now).setByte
      (Config.txBase + i) b) (i := i + 1) hb hr (by omega) rfl
    refine ⟨t, ?_, ?_, ?_, fun a ha => ?_⟩
    · rw [List.length_cons, runSteps, step_txByte hb hr (by omega) hi]
      exact hrun
    · rw [ht]
      cases bytes <;> rfl
    · rw [List.length_cons, txBytes_cons, hbytes]
      exact congrArg (· :: bytes) ((hother _ (.inl (by change 0x100 + i < _; omega))).trans (byteAt_setByte_same _ _ _))
    · rw [List.length_cons] at ha
      exact (hother a (by omega)).trans (byteAt_setByte_other _ _ (by change a ≠ 0x100 + i; omega))

/-- Settles O31: the writes of a PDU line start at TXBUF[1]. -/
theorem pduLineWritesTheBuffer : Obligations.PduLineWritesTheBuffer := by
  intro s bytes now rest hb hr hlen hi
  obtain ⟨t, hrun, ht, hbytes, hother⟩ := runSteps_pduInputs (i := 1) hb hr (by omega) hi
  rw [Nat.add_comm] at hbytes
  exact ⟨t, hrun, ht, hbytes, fun a ha => hother a (by omega)⟩

end Sys2Proof.Machine
end

section
/-! SUPPORT. The CRC function (spec/40_crc.md R130): its shift step loses nothing, so a changed byte changes the CRC, and a
sequence's own CRC cancels it. -/

namespace Sys2Proof.Machine

theorem crcShift_of_even {acc : Half} (h : acc.getLsbD 0 = false) : crcShift acc = acc >>> 1 :=
  if_neg (ne_true_of_eq_false h)

theorem crcShift_of_odd {acc : Half} (h : acc.getLsbD 0 = true) : crcShift acc = (acc >>> 1) ^^^ Config.crcPoly := if_pos h

/-- The top bit of the polynomial is 1, so a shifted accumulator still shows the low bit that was shifted out. -/
theorem getLsbD_crcShift_top (acc : Half) : (crcShift acc).getLsbD 15 = acc.getLsbD 0 := by
  cases h : acc.getLsbD 0 with
  | false => simp [crcShift_of_even h]
  | true => simp [crcShift_of_odd h]

theorem crcShift_injective : Function.Injective crcShift := by
  intro x y h
  have hlow : x.getLsbD 0 = y.getLsbD 0 := by rw [← getLsbD_crcShift_top x, h, getLsbD_crcShift_top y]
  have hrest : x >>> 1 = y >>> 1 := by
    cases hx : x.getLsbD 0 with
    | false => rwa [crcShift_of_even hx, crcShift_of_even (hlow.symm.trans hx)] at h
    | true => rwa [crcShift_of_odd hx, crcShift_of_odd (hlow.symm.trans hx), BitVec.xor_left_inj] at h
  apply BitVec.eq_of_getLsbD_eq
  intro k _
  cases k with
  | zero => exact hlow
  | succ k => simpa [Nat.add_comm] using congrArg (·.getLsbD k) hrest

theorem crcShifts_injective (k : Nat) : Function.Injective (crcShifts k) := by
  induction k with
  | zero => exact fun _ _ h => h
  | succ k ih => exact ih.comp crcShift_injective

theorem crcByte_left_injective (b : Byte) : Function.Injective (crcByte · b) := fun _ _ h =>
  (BitVec.xor_left_inj _).mp (crcShifts_injective 8 h)

theorem crcByte_right_injective (acc : Half) : Function.Injective (crcByte acc) := fun x y h => by
  have hwide : x.setWidth 16 = y.setWidth 16 := (BitVec.xor_right_inj _).mp (crcShifts_injective 8 h)
  simpa using congrArg (·.setWidth 8) hwide

/-- The bytes after a difference keep it. -/
theorem foldl_crcByte_injective (bytes : List Byte) : Function.Injective (bytes.foldl crcByte) := by
  induction bytes with
  | nil => exact fun _ _ h => h
  | cons b bytes ih => exact ih.comp (crcByte_left_injective b)

theorem crc16_append (xs ys : List Byte) : crc16 (xs ++ ys) = ys.foldl crcByte (crc16 xs) := List.foldl_append

/-- Settles O28: the step of the differing byte separates the two accumulators, and the bytes after it keep them apart. -/
theorem crcFindsAnyOneByteError : Obligations.CrcFindsAnyOneByteError := by
  intro before after x y hne h
  rw [crc16_append, crc16_append] at h
  exact hne (crcByte_right_injective _ (foldl_crcByte_injective after h))

/-- Iterations over low bits that are all 0 only shift. -/
theorem crcShifts_of_low_zero {k : Nat} {acc : Half} (h : ∀ j < k, acc.getLsbD j = false) : crcShifts k acc = acc >>> k := by
  induction k generalizing acc with
  | zero => rfl
  | succ k ih =>
    have hshifted : ∀ j < k, (acc >>> 1).getLsbD j = false := fun j hj => by
      rw [BitVec.getLsbD_ushiftRight]
      exact h _ (by omega)
    rw [crcShifts, crcShift_of_even (h 0 k.succ_pos), ih hshifted, ← BitVec.shiftRight_add, Nat.add_comm]

/-- Absorbing its own low byte leaves an accumulator's high byte. -/
theorem crcByte_crcLo (c : Half) : crcByte c (crcLo c) = c >>> 8 := by
  have hlow : ∀ j < 8, (c ^^^ (crcLo c).setWidth 16).getLsbD j = false := fun j hj => by
    simp [crcLo, hj, show j < 16 by omega]
  have hhigh : (c ^^^ (crcLo c).setWidth 16) >>> 8 = c >>> 8 := by
    ext j hj
    simp [crcLo]
  rw [crcByte, crcShifts_of_low_zero hlow, hhigh]

/-- Absorbing the high byte that is left cancels it. -/
theorem crcByte_crcHi (c : Half) : crcByte (c >>> 8) (crcHi c) = 0 := by
  have hhigh : (crcHi c).setWidth 16 = c >>> 8 := by
    ext j hj
    have hbound : c.getLsbD (8 + j) = true → j < 8 := fun h => by have := BitVec.lt_of_getLsbD h; omega
    simpa [crcHi] using hbound
  rw [crcByte, hhigh, BitVec.xor_self]
  rfl

/-- Settles O27: the CRC's low byte, then its high byte, cancel the accumulator. -/
theorem crcResidue : Obligations.CrcResidue := by
  intro bytes
  rw [crc16_append]
  change crcByte (crcByte (crc16 bytes) (crcLo (crc16 bytes))) (crcHi (crc16 bytes)) = 0
  rw [crcByte_crcLo, crcByte_crcHi]

end Sys2Proof.Machine
end

section
/-! SUPPORT. The commands of the CRC Engine (spec/40_crc.md R131 to R134): the end of a command that only sets the accumulator,
and of one that an accept-time check rejects. -/

namespace Sys2Proof.Machine

/-- A word of a command that R27 does not name is rejected for a reserved bit of its format (R113). -/
theorem rejectsReservedBits_of_row {op : Byte} {f : WordFormat} {s : State} (hs : Idle s) (hf : (op, f) ∈ commandTable)
    (hop : op ∉ receiveOps) : RejectsReservedBits op f.reserved s := by
  rintro w rfl hz
  have hop : opcodeOf w ∉ receiveOps := hop
  rw [acceptCommand_of_error hs ((decode_of_row hf).trans (if_neg hz)), if_neg hop]
  rfl

/-- A failed accept-time check of a command that R27 does not name changes the STATUS fields only (R233, R235). -/
theorem finish_accept_of_notMem {s : State} (hs : Idle s) {op : Byte} (hop : op ∉ receiveOps) (k : ErrKind) (d : Byte) :
    (s.accept op).finish k d = s.reported op k d .idle := by
  rw [finish_accept_of_idle hs, if_neg hop]

/-- A command that only sets the accumulator leaves it and the STATUS fields (R38, R235). -/
theorem finishOk_setCrc_accept {s : State} (hs : Idle s) {op : Byte} (hop : op ∉ receiveOps) (c : Half) :
    ((s.accept op).setCrc c).finishOk = { s with crc := c }.reported op .success 0 .idle :=
  finish_accept_of_notMem (s := s.setCrc c) hs hop .success 0

/-- Settles O10: the accumulator is set, whatever it held. -/
theorem crcInitResult : Obligations.CrcInitResult := fun _ hs =>
  ⟨rfl, congrArg _ (finishOk_setCrc_accept hs (by decide) _),
    rejectsReservedBits_of_row (f := .z .crcInit) hs (by simp [commandTable]) (by decide)⟩

/-- Settles O11: the accumulator takes one more byte. -/
theorem crcByteResult : Obligations.CrcByteResult := by
  refine ⟨fun s b hs => ⟨rfl, ?_, ?_⟩, by decide⟩
  · exact congrArg _ (finishOk_setCrc_accept hs (by decide) _)
  · exact rejectsReservedBits_of_row (f := .b .crcByte) hs (by simp [commandTable]) (by decide)

/-- Settles O12: a legal length sets the accumulator, and a longer one is rejected. -/
theorem crcBufferResult : Obligations.CrcBufferResult := by
  intro s n hs
  refine ⟨rfl, rfl, fun hle => ?_, fun hlt => ?_, ?_, ?_⟩
  · have hn : 0 ≤ n.toNat ∧ n.toNat ≤ Config.aduMax := ⟨Nat.zero_le _, hle⟩
    exact ⟨congrArg _ ((withLength_of_legal hn _ _).trans (finishOk_setCrc_accept hs (by decide) _)),
      congrArg _ ((withLength_of_legal hn _ _).trans (finishOk_setCrc_accept hs (by decide) _))⟩
  · have hn : ¬(0 ≤ n.toNat ∧ n.toNat ≤ Config.aduMax) := fun h => absurd h.2 (not_le.mpr hlt)
    exact ⟨congrArg _ ((withLength_of_illegal hn _ _).trans (finish_accept_of_notMem hs (by decide) _ _)),
      congrArg _ ((withLength_of_illegal hn _ _).trans (finish_accept_of_notMem hs (by decide) _ _))⟩
  · exact rejectsReservedBits_of_row (f := .n .crcTxbuf) hs (by simp [commandTable]) (by decide)
  · exact rejectsReservedBits_of_row (f := .n .crcRxbuf) hs (by simp [commandTable]) (by decide)

end Sys2Proof.Machine
end

section
/-! SUPPORT. A built frame verifies (spec/40_crc.md R135; spec/42_framer.md R172, R180): the bytes that ADU assembly leaves in
TXBUF, and what verification does with bytes that match. -/

namespace Sys2Proof.Machine

/-! ### The bytes of a built ADU (R172) -/

theorem tx_buildAdu_crcHi (s : State) (n : Nat) : (s.buildAdu n).tx (n + 2) = crcHi (s.buildAdu n).crc :=
  byteAt_setByte_same _ _ _

theorem tx_buildAdu_crcLo (s : State) (n : Nat) : (s.buildAdu n).tx (n + 1) = crcLo (s.buildAdu n).crc :=
  (byteAt_setByte_other _ _ (by omega)).trans (byteAt_setByte_same _ _ _)

/-- Below the CRC, an ADU is the PDU with the slave id before it. -/
theorem tx_buildAdu_of_le (s : State) {n k : Nat} (h : k ≤ n) :
    (s.buildAdu n).tx k = (s.setByte Config.txBase s.slave).tx k :=
  (byteAt_setByte_other _ _ (by omega)).trans (byteAt_setByte_other _ _ (by omega))

theorem tx_buildAdu_slave (s : State) (n : Nat) : (s.buildAdu n).tx 0 = s.slave :=
  (tx_buildAdu_of_le s n.zero_le).trans (byteAt_setByte_same _ _ _)

theorem tx_buildAdu_pdu (s : State) {n k : Nat} (h0 : 1 ≤ k) (h : k ≤ n) : (s.buildAdu n).tx k = s.tx k :=
  (tx_buildAdu_of_le s h).trans (byteAt_setByte_other _ _ (by omega))

/-- The CRC of an ADU is that of its bytes before the CRC, as they stand in TXBUF. -/
theorem crc16_txBytes_buildAdu (s : State) (n : Nat) : crc16 ((s.buildAdu n).txBytes 0 (n + 1)) = (s.buildAdu n).crc := by
  rw [buildAdu_crc, txBytes_congr fun k _ hk => tx_buildAdu_of_le s (Nat.le_of_lt_succ hk)]

/-! ### Verification of matching bytes (R180) -/

/-- RXBUF and TXBUF hold the same slice exactly when they agree on each of its bytes. -/
theorem rxBytes_eq_txBytes_iff {s t : State} {i j : Nat} :
    t.rxBytes i j = s.txBytes i j ↔ ∀ k, i ≤ k → k < j → t.rx k = s.tx k := by
  simp only [State.rxBytes, State.txBytes, List.map_inj_left, List.mem_range'_1, and_imp]
  exact forall₂_congr fun k hk => by rw [show k < i + (j - i) ↔ k < j by omega]

/-- A copy in RXBUF of an ADU that was built passes the CRC check. -/
theorem rxCrcMatches_of_built {s u : State} {n : Nat} (h : ∀ k < n + 3, u.rx k = (s.buildAdu n).tx k) :
    u.rxCrcMatches (n + 3) = true := by
  have hc : crc16 (u.rxBytes 0 (n + 1)) = (s.buildAdu n).crc := by
    rw [rxBytes_eq_txBytes_iff.mpr fun k _ hk => h k (by omega), crc16_txBytes_buildAdu]
  have hlo : u.rx (n + 1) = crcLo (s.buildAdu n).crc := (h _ (by omega)).trans (tx_buildAdu_crcLo s n)
  have hhi : u.rx (n + 2) = crcHi (s.buildAdu n).crc := (h _ (by omega)).trans (tx_buildAdu_crcHi s n)
  simp [State.rxCrcMatches, hc, hlo, hhi]

/-- Verification of a frame of the right slave with a right CRC makes its PDU valid. -/
theorem verify_of_matches {s : State} {n : Nat} (hslave : s.rx 0 = s.slave) (hm : s.rxCrcMatches n = true) :
    s.verify n = (((s.atPhase .verify).setCrc (crc16 (s.rxBytes 0 (n - 2)))).validFrame (n - 3)).finishOk :=
  (if_neg (not_not.mpr hslave)).trans (if_pos hm)

theorem exec_frameBuild_of_legal {n : Half} (h : 1 ≤ n.toNat ∧ n.toNat ≤ 253) (s : State) :
    exec (.frameBuild n) s = .next ((s.accept Opcode.frameBuild).buildAdu n.toNat).finishOk :=
  congrArg _ (withLength_of_legal h _ _)

theorem exec_frameVerify_of_legal {n : Half} (h : 4 ≤ n.toNat ∧ n.toNat ≤ 256) (s : State) :
    exec (.frameVerify n) s =
      .next (((s.accept Opcode.frameVerify).dropFrame.setRxNeed n.toNat).verify n.toNat) :=
  congrArg _ (withLength_of_legal h _ _)

/-- Settles O32: RXBUF holds the ADU byte by byte, so the slave and the CRC match, and its PDU is TXBUF's. -/
theorem builtFrameVerifies : Obligations.BuiltFrameVerifies := by
  intro s n _ hlo hhi
  refine ⟨_, exec_frameBuild_of_legal ⟨hlo, hhi⟩ s, fun u _ hslave hcopy => ?_⟩
  have hbytes : ∀ k < n.toNat + 3, u.rx k = ((s.accept Opcode.frameBuild).buildAdu n.toNat).tx k := fun k hk =>
    rxBytes_eq_txBytes_iff.mp hcopy k k.zero_le hk
  have hrx0 : u.rx 0 = u.slave := (hbytes 0 (by omega)).trans ((tx_buildAdu_slave _ _).trans hslave.symm)
  have hpdu : u.rxBytes 1 (n.toNat + 1) = s.txBytes 1 (n.toNat + 1) := rxBytes_eq_txBytes_iff.mpr fun k h1 hk =>
    (hbytes k (by omega)).trans (tx_buildAdu_pdu _ h1 (by omega))
  have hverify := verify_of_matches (s := (u.accept Opcode.frameVerify).dropFrame.setRxNeed (n.toNat + 3)) hrx0
    (rxCrcMatches_of_built hbytes)
  have hlen : (n + 3).toNat = n.toNat + 3 := by bv_omega
  rw [exec_frameVerify_of_legal (by omega), hlen, hverify]
  exact ⟨_, rfl, rfl, rfl, (BitVec.ofNat_toNat 16 n).trans (BitVec.setWidth_eq n), hpdu⟩

end Sys2Proof.Machine
end

section
/-! SUPPORT. The commands of the Budget Tracker (spec/41_budget.md R151 to R156): what each of the two leaves on an idle block,
and the time that one charge, and a sequence of charges, subtracts. -/

namespace Sys2Proof.Machine

/-! ### The two commands -/

/-- BUDGET.LOAD on an idle block leaves BUDGET, MARK and the STATUS fields (R155, R235). -/
theorem exec_budgetLoad_of_idle {s : State} (hs : Idle s) :
    exec .budgetLoad s = .next (s.loadBudget.reported 0x10 .success 0 .idle) :=
  congrArg _ (finish_accept_of_notMem (s := s.loadBudget) (op := Opcode.budgetLoad) hs (by decide) .success 0)

/-- BUDGET.CHARGE on an idle block leaves what one charge writes and the STATUS fields (R156, R235). -/
theorem exec_budgetCharge_of_idle {s : State} (hs : Idle s) :
    exec .budgetCharge s = .next (s.charge.reported 0x11 .success 0 .idle) :=
  congrArg _ (finish_accept_of_notMem (s := s.charge) (op := Opcode.budgetCharge) hs (by decide) .success 0)

/-- Settles O13: ARG replaces the budget, and bit 4 of STATUS is EXPIRED of the budget left. -/
theorem budgetLoadResult : Obligations.BudgetLoadResult := by
  intro s hs
  refine ⟨rfl, ⟨_, exec_budgetLoad_of_idle hs, rfl, ?_⟩, ?_⟩
  · obtain ⟨-, -, -, -, expired⟩ := statusWord_flags (s.loadBudget.reported 0x10 .success 0 .idle)
    exact expired
  · exact rejectsReservedBits_of_row (f := .z .budgetLoad) hs (by simp [commandTable]) (by decide)

/-- Settles O14: the command is one charge, exact down to the clamp, and a charge never raises the budget. -/
theorem budgetChargeResult : Obligations.BudgetChargeResult := by
  intro s hs
  have hexact := toInt_charge s
  refine ⟨rfl, ⟨s.charge.budget, exec_budgetCharge_of_idle hs, hexact, ?_⟩, ?_⟩
  · exact hexact.trans_le (budgetAfter_le s s.now)
  · exact rejectsReservedBits_of_row (f := .z .budgetCharge) hs (by simp [commandTable]) (by decide)

/-! ### A sequence of charges (R154) -/

/-- A difference of two samples is that of the integers they stand for, modulo 2^32. -/
theorem toNat_sub_eq_emod (t m : Word) : ((t - m).toNat : Int) = ((t.toNat : Int) - m.toNat) % 2 ^ 32 := by
  have ht := t.isLt
  have hm := m.isLt
  rw [BitVec.toNat_sub]; omega

/-- A charge that does not clamp subtracts the milliseconds since MARK (R151, R152). -/
theorem toInt_charge_of_noClamp {s : State} (h : -(2 ^ 31) ≤ s.budget.toInt - (s.now - s.mark).toNat) :
    s.charge.budget.toInt = s.budget.toInt - (s.now - s.mark).toNat := by
  rw [toInt_charge, State.budgetAfter, ← toNat_sub_eq_emod, max_eq_right h]

/-- Charges that do not clamp subtract the sum of the steps from MARK through their samples: since charges only lower the budget,
that the last one does not clamp is enough. -/
theorem toInt_chargeAt_of_noClamp {s : State} {times : List Word}
    (h : -(2 ^ 31) ≤ s.budget.toInt - elapsedThrough s.mark times) :
    (s.chargeAt times).budget.toInt = s.budget.toInt - elapsedThrough s.mark times := by
  induction times generalizing s with
  | nil => exact (Int.sub_zero _).symm
  | cons u us ih =>
    have hsum : (elapsedThrough s.mark (u :: us) : Int) = (u - s.mark).toNat + elapsedThrough u us := Nat.cast_add _ _
    have hcharge : (s.setNow u).charge.budget.toInt = s.budget.toInt - (u - s.mark).toNat :=
      toInt_charge_of_noClamp (s := s.setNow u) (by simp only [setNow_budget, setNow_now, setNow_mark]; omega)
    have hrest : ((s.setNow u).charge.chargeAt us).budget.toInt = (s.setNow u).charge.budget.toInt - elapsedThrough u us :=
      ih (by simp only [hcharge, charge_mark, setNow_now]; omega)
    calc (s.chargeAt (u :: us)).budget.toInt
      _ = s.budget.toInt - (u - s.mark).toNat - elapsedThrough u us := hrest.trans (by rw [hcharge])
      _ = s.budget.toInt - elapsedThrough s.mark (u :: us) := by rw [hsum, Int.sub_sub]

/-- The steps through a list of samples add up, modulo 2^32, to the step from the first sample to the last. -/
theorem ofNat_elapsedThrough (t : Word) (times : List Word) :
    BitVec.ofNat 32 (elapsedThrough t times) = times.getLastD t - t := by
  induction times generalizing t with
  | nil => exact (BitVec.sub_self t).symm
  | cons u us ih =>
    calc BitVec.ofNat 32 (elapsedThrough t (u :: us))
      _ = BitVec.ofNat 32 (u - t).toNat + BitVec.ofNat 32 (elapsedThrough u us) := BitVec.ofNat_add _ _
      _ = (u - t) + (us.getLastD u - u) := by rw [ih, BitVec.ofNat_toNat, BitVec.setWidth_eq]
      _ = us.getLastD u - t := sub_add_sub_cancel' u t _
      _ = (u :: us).getLastD t - t := by rw [List.getLastD_cons]

/-- Settles O35: the charges subtract the sum of the steps between their samples, and below 2^32 that sum is the one step to the
last sample. -/
theorem chargesTelescope : Obligations.ChargesTelescope := by
  intro s times hs
  refine ⟨_, exec_budgetLoad_of_idle hs, fun hlt hclamp => ?_⟩
  have htime : (times.getLastD s.now - s.now).toNat = elapsedThrough s.now times := by
    rw [← ofNat_elapsedThrough, BitVec.toNat_ofNat, Nat.mod_eq_of_lt hlt]
  rw [htime]
  exact toInt_chargeAt_of_noClamp hclamp

end Sys2Proof.Machine
end

section
/-! SUPPORT. The accept steps of the framer's commands (spec/42_framer.md R170 to R175, R180 to R186): what each of the seven
leaves on an idle block, and the three outcomes of verification. -/

namespace Sys2Proof.Machine

/-! ### The end and the entry of a phase, on an idle block (R176, R235) -/

/-- What ends in the phase it started in leaves, on an idle block, its effects and the STATUS fields. -/
theorem finish_started_of_idle {s : State} (hs : Idle s) (op : Byte) (p : Phase) (k : ErrKind) (d : Byte) :
    (s.started op p).finish k d = s.reported op k d p := by
  obtain ⟨hb, hp, hx⟩ := hs
  simp only [State.started, State.finish, State.reported]
  rw [← hb, ← hp, ← hx]

/-- A phase that is entered in the accept step begins, or ends the command when the budget is exhausted: `s` is the idle block
with the command's other effects. -/
theorem enter_of_idle {s u : State} {op : Byte} {p : Phase} (hs : Idle s) (hu : u.atPhase p = s.started op p) :
    (0 < s.budget.toInt → u.enter p = (s.started op p).beginPhase p) ∧
      (s.budget.toInt ≤ 0 → u.enter p = s.reported op .timeout 1 p) := by
  have hbudget : u.budget = s.budget := congrArg (·.budget) hu
  refine ⟨fun hb => ?_, fun hb => ?_⟩
  · rw [enter_of_budget (hbudget ▸ hb), hu]
  · rw [enter_of_exhausted (hbudget ▸ hb), hu, finish_started_of_idle hs]

/-- The accept of a command that R27 names drops the verified frame, whatever check fails after it. -/
theorem finish_accept_of_mem {s : State} (hs : Idle s) {op : Byte} (hop : op ∈ receiveOps) (k : ErrKind) (d : Byte) :
    (s.accept op).finish k d = s.dropFrame.reported op k d .idle := by
  rw [finish_accept_of_idle hs, if_pos hop]

/-! ### Verification (R180) -/

theorem rxCrcMatches_iff {s : State} {n : Nat} :
    s.rxCrcMatches n = true ↔
      s.rx (n - 2) = crcLo (crc16 (s.rxBytes 0 (n - 2))) ∧ s.rx (n - 1) = crcHi (crc16 (s.rxBytes 0 (n - 2))) := by
  simp [State.rxCrcMatches]

theorem verify_of_otherSlave {s : State} (h : s.rx 0 ≠ s.slave) (n : Nat) :
    s.verify n = (s.atPhase .verify).finish .protocolError 3 := if_pos h

theorem verify_of_mismatch {s : State} {n : Nat} (hslave : s.rx 0 = s.slave) (hm : ¬s.rxCrcMatches n = true) :
    s.verify n = ((s.atPhase .verify).setCrc (crc16 (s.rxBytes 0 (n - 2)))).finish .protocolError 4 :=
  (if_neg (not_not.mpr hslave)).trans (if_neg hm)

/-- Settles O46: the slave decides first, then the CRC. -/
theorem verificationOutcome : Obligations.VerificationOutcome := by
  intro s n _ _
  refine ⟨fun hslave => ?_, fun hslave hm => ?_, fun hslave hm => ?_⟩
  · rw [verify_of_otherSlave hslave]; rfl
  · rw [verify_of_mismatch hslave (rxCrcMatches_iff.not.mpr hm)]; rfl
  · rw [verify_of_matches hslave (rxCrcMatches_iff.mpr hm)]; rfl

/-! ### FRAME.BUILD (R171, R172) -/

/-- The CRC of an ADU is that of the slave id and the PDU. -/
theorem crc_buildAdu (s : State) (n : Nat) : (s.buildAdu n).crc = crc16 (s.slave :: s.txBytes 1 (n + 1)) := by
  have hcons := txBytes_cons (s.setByte Config.txBase s.slave) 0 n
  have hhead : (s.setByte Config.txBase s.slave).tx 0 = s.slave := byteAt_setByte_same _ _ _
  have htail : (s.setByte Config.txBase s.slave).txBytes 1 (n + 1) = s.txBytes 1 (n + 1) :=
    txBytes_congr fun k hk _ => byteAt_setByte_other _ _ (by omega)
  rw [buildAdu_crc]
  rw [Nat.zero_add, Nat.zero_add, Nat.add_comm 1 n, hhead, htail] at hcons
  rw [hcons]

/-- ADU assembly writes TXBUF, CRC, TX_LEN and TX_WRITTEN, and nothing else. -/
theorem buildAdu_eq (s : State) (n : Nat) :
    s.buildAdu n =
      { s with
        crc := crc16 (s.slave :: s.txBytes 1 (n + 1)), txLen := BitVec.ofNat 16 (n + 3), txWritten := 0,
        mem := (s.buildAdu n).mem } := by
  rw [← crc_buildAdu]
  simp only [State.buildAdu, State.setByte, State.setCrc, State.setAdu]

/-- ADU assembly and the start of an accept do not meet in any field. -/
theorem buildAdu_accept (s : State) (op : Byte) (n : Nat) : (s.accept op).buildAdu n = (s.buildAdu n).accept op := by
  have hbytes : ((s.accept op).setByte Config.txBase s.slave).txBytes 0 (n + 1) =
      (s.setByte Config.txBase s.slave).txBytes 0 (n + 1) := rfl
  simp only [State.buildAdu, accept_slave, hbytes]
  simp only [State.accept, State.setByte, State.setCrc, State.setAdu]

theorem idle_buildAdu {s : State} (hs : Idle s) (n : Nat) : Idle (s.buildAdu n) := by
  rw [buildAdu_eq]; exact hs

/-- The length of an ADU is 3 more than that of its PDU, as a register holds it. -/
theorem ofNat_toNat_add_three (n : Half) : BitVec.ofNat 16 (n.toNat + 3) = n + 3 := by
  rw [BitVec.ofNat_add, BitVec.ofNat_toNat, BitVec.setWidth_eq]; rfl

/-- The bytes that ADU assembly writes: the slave id, and the CRC low byte first; and that it writes no other. -/
theorem buildAdu_bytes (s : State) (n : Nat) :
    let c := crc16 (s.slave :: s.txBytes 1 (n + 1))
    (s.buildAdu n).tx 0 = s.slave ∧ (s.buildAdu n).tx (n + 1) = crcLo c ∧ (s.buildAdu n).tx (n + 2) = crcHi c ∧
      ∀ a, a ≠ 0x100 → a ≠ 0x100 + (n + 1) → a ≠ 0x100 + (n + 2) → (s.buildAdu n).byteAt a = s.byteAt a := by
  dsimp only
  rw [← crc_buildAdu]
  exact ⟨tx_buildAdu_slave s n, tx_buildAdu_crcLo s n, tx_buildAdu_crcHi s n, fun a => byteAt_buildAdu_other s n⟩

/-- FRAME.BUILD on an idle block leaves what ADU assembly does and the STATUS fields. -/
theorem exec_frameBuild_of_idle {s : State} (hs : Idle s) {n : Half} (h : 1 ≤ n.toNat ∧ n.toNat ≤ 253) :
    exec (.frameBuild n) s = .next ((s.buildAdu n.toNat).reported 0x20 .success 0 .idle) := by
  rw [exec_frameBuild_of_legal h, buildAdu_accept]
  exact congrArg _ (finish_accept_of_notMem (idle_buildAdu hs _) (by decide) .success 0)

/-- Settles O15: the command is ADU assembly on the idle block, or one of its two rejections. -/
theorem frameBuildResult : Obligations.FrameBuildResult := by
  intro s n hs
  refine ⟨rfl, fun hlo hhi => ⟨_, exec_frameBuild_of_idle hs ⟨hlo, hhi⟩, ?_, buildAdu_bytes s n.toNat⟩, fun hn => ?_, ?_⟩
  · rw [← ofNat_toNat_add_three]
    exact congrArg (State.reported · _ _ _ _) (buildAdu_eq s n.toNat)
  · exact congrArg _ ((withLength_of_illegal hn _ _).trans (finish_accept_of_notMem hs (by decide) _ _))
  · exact rejectsReservedBits_of_row (f := .n .frameBuild) hs (by simp [commandTable]) (by decide)

/-! ### FRAME.PDULEN (R173 to R175) -/

/-- FRAME.PDULEN leaves RESULT and the STATUS fields, whatever it infers. -/
theorem finish_setResult_accept {s : State} (hs : Idle s) (r : Word) (k : ErrKind) (d : Byte) :
    ((s.accept Opcode.framePdulen).setResult r).finish k d = { s with result := r }.reported 0x21 k d .idle :=
  finish_accept_of_notMem (s := s.setResult r) (op := Opcode.framePdulen) hs (by decide) k d

section
variable {s : State} {fc bc : Byte}

theorem exec_framePdulen_of_length (hs : Idle s) {len : Nat} (h : findPduLength fc bc = .ok len) :
    exec (.framePdulen fc bc) s = .next ({ s with result := BitVec.ofNat 32 len }.reported 0x21 .success 0 .idle) := by
  simp only [exec, execFramePdulen, h]
  exact congrArg _ (finish_setResult_accept hs _ _ _)

theorem exec_framePdulen_of_unsupported (hs : Idle s) (h : findPduLength fc bc = .unsupported) :
    exec (.framePdulen fc bc) s = .next ({ s with result := 0 }.reported 0x21 .protocolError 1 .idle) := by
  simp only [exec, execFramePdulen, h]
  exact congrArg _ (finish_setResult_accept hs _ _ _)

theorem exec_framePdulen_of_outOfRange (hs : Idle s) (h : findPduLength fc bc = .outOfRange) :
    exec (.framePdulen fc bc) s = .next ({ s with result := 0 }.reported 0x21 .protocolError 2 .idle) := by
  simp only [exec, execFramePdulen, h]
  exact congrArg _ (finish_setResult_accept hs _ _ _)

end

theorem findPduLength_of_exception {fc : Byte} (h : 0x80 ≤ fc) (bc : Byte) : findPduLength fc bc = .ok 2 := by
  rw [findPduLength, respClass, if_pos (msb_eq_true_iff.mpr h)]

/-- A function code below 0x80 that no other class lists is unsupported (R95). -/
theorem respClass_of_notListed {fc : Byte} (hlt : fc < 0x80) (hbc : fc ∉ byteCountCodes) (hfive : fc ∉ fixedFiveCodes)
    (hseven : fc ≠ 0x16) : respClass fc = .unsupported := by
  have hm : ¬fc.msb = true := fun hm => BitVec.not_lt.mpr (msb_eq_true_iff.mp hm) hlt
  rw [respClass, if_neg hm, if_neg hbc, if_neg hfive, if_neg hseven]

/-- The length of class BC, as RESULT holds it (R97). -/
theorem ofNat_byteCountLength (bc : Byte) : BitVec.ofNat 32 (2 + bc.toNat) = 2 + bc.setWidth 32 := by
  rw [BitVec.ofNat_add, BitVec.ofNat_toNat]; rfl

/-- Settles O16: the command reports what its function code's class infers. -/
theorem framePdulenResult : Obligations.FramePdulenResult := by
  intro s fc bc hs
  have hfive : ∀ fc ∈ fixedFiveCodes, (fc, 5) ∈ fixedCodes := by decide
  refine ⟨rfl, fun h => ?_, fun h hle => ?_, fun h hge => ?_, fun h => ?_, fun h => ?_, fun hlt hbc hfix hseven => ?_, ?_⟩
  · exact exec_framePdulen_of_length hs (findPduLength_of_exception h bc)
  · rw [exec_framePdulen_of_length hs ((findPduLength_of_byteCount h bc).trans (byteCountLength_of_legal hle)),
      ofNat_byteCountLength]
  · exact exec_framePdulen_of_outOfRange hs ((findPduLength_of_byteCount h bc).trans (byteCountLength_of_illegal hge))
  · exact exec_framePdulen_of_length hs (findPduLength_of_fixed (hfive fc h) bc)
  · subst h
    exact exec_framePdulen_of_length hs (findPduLength_of_fixed (p := (0x16, 7)) (by decide) bc)
  · exact exec_framePdulen_of_unsupported hs
      (findPduLength_of_unsupported (mem_unsupportedCodes_iff.mpr (respClass_of_notListed hlt hbc hfix hseven)) bc)
  · exact rejectsReservedBits_of_row (f := .p .framePdulen) hs (by simp [commandTable]) (by decide)

/-- RX_NEED after the end of a header with a length (R183). -/
theorem headerEnd_rxNeed (s : State) (l : Nat) : (headerEnd (.ok l) s).rxNeed = BitVec.ofNat 16 (l + 3) := by
  rcases Int.lt_or_le 0 s.budget.toInt with h | h
  · rw [headerEnd_of_budget h]
  · rw [headerEnd_of_exhausted h]; rfl

/-- Settles O26: both report what the header's length rule answers. -/
theorem headersAgreeWithPdulen : Obligations.HeadersAgreeWithPdulen := by
  intro s u fc bc i hi
  obtain rfl : decodeHeader fc bc = i := Except.ok.inj hi
  rw [exec_decodeHeader]
  simp only [exec, execFramePdulen]
  cases hl : findPduLength fc bc with
  | ok l =>
    obtain ⟨hlo, hhi⟩ := findPduLength_range hl
    refine ⟨_, _, rfl, rfl, fun _ => ?_, fun h => absurd rfl h⟩
    rw [headerEnd_rxNeed, finishOk_result, setResult_result, BitVec.toNat_ofNat, BitVec.toNat_ofNat]
    omega
  | unsupported => exact ⟨_, _, rfl, rfl, nofun, fun _ => ⟨rfl, rfl⟩⟩
  | outOfRange => exact ⟨_, _, rfl, rfl, nofun, fun _ => ⟨rfl, rfl⟩⟩

/-! ### FRAME.VERIFY (R185) -/

/-- Settles O17: verification of RXBUF as it stands, on the idle block without a frame. -/
theorem frameVerifyResult : Obligations.FrameVerifyResult := by
  intro s n hs c matched dropped r
  let u : State := (s.accept Opcode.frameVerify).dropFrame.setRxNeed n.toNat
  let q : State := s.dropFrame.setRxNeed n.toNat
  have hr : q = r :=
    congrArg (fun k => { dropped with rxNeed := k }) ((BitVec.ofNat_toNat 16 n).trans (BitVec.setWidth_eq n))
  have hend (t : State) (ht : Idle t) := finish_started_of_idle ht Opcode.frameVerify .verify
  have hmatched : u.rxCrcMatches n.toNat = true ↔ matched := rxCrcMatches_iff
  refine ⟨rfl, fun hlo hhi hslave => ?_, fun hlo hhi hslave hm => ?_, fun hlo hhi hslave hm => ?_, fun hn => ?_,
    fun w hop hz => ?_⟩
  · rw [exec_frameVerify_of_legal ⟨hlo, hhi⟩, verify_of_otherSlave (s := u) hslave, ← hr]
    exact congrArg _ (hend q hs _ _)
  · rw [exec_frameVerify_of_legal ⟨hlo, hhi⟩, verify_of_mismatch (s := u) hslave (hmatched.not.mpr hm), ← hr]
    exact congrArg _ (hend (q.setCrc c) hs _ _)
  · have hlen : BitVec.ofNat 16 (n.toNat - 3) = n - 3 := by bv_omega
    rw [exec_frameVerify_of_legal ⟨hlo, hhi⟩, verify_of_matches (s := u) hslave (hmatched.mpr hm), ← hr, ← hlen]
    exact congrArg _ (hend ((q.setCrc c).validFrame _) hs _ _)
  · exact congrArg _ ((withLength_of_illegal hn _ _).trans (finish_accept_of_mem hs (by decide) _ _))
  · have hrow : (opcodeOf w, WordFormat.n .frameVerify) ∈ commandTable := by
      rw [show opcodeOf w = _ from hop]; simp [commandTable]
    rw [acceptCommand_of_error hs ((decode_of_row hrow).trans (if_neg hz)), show opcodeOf w = _ from hop]
    rfl

/-! ### The phase commands (R181 to R186) -/

theorem withLink_accept_of_open {s : State} (h : s.linkOpen = true) (op : Byte) (body : State → State) :
    withLink (s.accept op) body = body (s.accept op) :=
  withLink_of_open (s := s.accept op) h body

theorem withLink_accept_of_closed {s : State} (h : s.linkOpen = false) (op : Byte) (body : State → State) :
    withLink (s.accept op) body = (s.accept op).finish .invalidOperation 4 :=
  withLink_of_closed (s := s.accept op) h body

/-- Settles O18: the flush is entered. -/
theorem flushStarts : Obligations.FlushStarts := by
  intro s hs hl
  obtain ⟨hbudget, hexhausted⟩ := enter_of_idle (u := (s.accept Opcode.frameFlush).setBusy) (p := .flush) hs rfl
  have hexec : exec .frameFlush s = .next ((s.accept Opcode.frameFlush).setBusy.enter .flush) :=
    congrArg _ (withLink_accept_of_open hl _ _)
  exact ⟨fun hb => hexec.trans (congrArg _ (hbudget hb)), fun hb => hexec.trans (congrArg _ (hexhausted hb))⟩

/-- Settles O19: the send is entered. -/
theorem sendStarts : Obligations.SendStarts := by
  intro s hs hl hlen
  obtain ⟨hbudget, hexhausted⟩ := enter_of_idle (u := (s.accept Opcode.frameSend).setBusy) (p := .send) hs rfl
  have hexec : exec .frameSend s = .next ((s.accept Opcode.frameSend).setBusy.enter .send) :=
    congrArg _ ((withLink_accept_of_open hl _ _).trans (withAdu_of_built (s := s.accept Opcode.frameSend) hlen _))
  exact ⟨fun hb => hexec.trans (congrArg _ (hbudget hb)), fun hb => hexec.trans (congrArg _ (hexhausted hb))⟩

/-- Settles O20: the header is entered, without a frame. -/
theorem recvStarts : Obligations.RecvStarts := by
  intro s hs hl
  obtain ⟨hbudget, hexhausted⟩ :=
    enter_of_idle (s := s.dropFrame) (u := (s.accept Opcode.frameRecv).dropFrame.setBusy) (p := .rxHdr) hs rfl
  have hexec : exec .frameRecv s = .next ((s.accept Opcode.frameRecv).dropFrame.setBusy.enter .rxHdr) :=
    congrArg _ (withLink_accept_of_open hl _ _)
  exact ⟨fun hb => hexec.trans (congrArg _ (hbudget hb)), fun hb => hexec.trans (congrArg _ (hexhausted hb))⟩

/-- FRAME.XACT on an idle block enters the flush, its ADU built and no frame valid. -/
theorem exec_frameXact_of_open {s : State} (hl : s.linkOpen = true) {n : Half} (h : 1 ≤ n.toNat ∧ n.toNat ≤ 253) :
    exec (.frameXact n) s = .next (((s.buildAdu n.toNat).accept Opcode.frameXact).dropFrame.setBusy.enter .flush) := by
  rw [← buildAdu_accept]
  exact congrArg _ ((withLength_of_legal h _ _).trans (withLink_accept_of_open hl _ _))

/-- What FRAME.XACT leaves once its ADU, with this CRC, length and buffers, is built (R186, R176). -/
theorem enter_flush_of_xact {s b : State} {c len : Half} {m : Memory} (hs : Idle s)
    (hbuilt : b = { s with crc := c, txLen := len, txWritten := 0, mem := m }) :
    let u := (b.accept Opcode.frameXact).dropFrame.setBusy
    let r : State := { s with crc := c, txLen := len, txWritten := 0, rxValid := false, rxPduLen := 0, mem := m }
    (0 < s.budget.toInt → u.enter .flush = { r with flushCount := 0 }.started 0x26 .flush) ∧
      (s.budget.toInt ≤ 0 → u.enter .flush = r.reported 0x26 .timeout 1 .flush) := by
  subst hbuilt
  exact enter_of_idle
    (s := { s with crc := c, txLen := len, txWritten := 0, rxValid := false, rxPduLen := 0, mem := m }) hs rfl

/-- Settles O21: the flush is entered with the ADU built, and entering a phase writes no buffer. -/
theorem xactStarts : Obligations.XactStarts := by
  intro s n hs hl hlo hhi
  obtain ⟨hslave, hlow, hhigh, hother⟩ := buildAdu_bytes s n.toNat
  have hstart := enter_flush_of_xact hs (buildAdu_eq s n.toNat)
  rw [ofNat_toNat_add_three] at hstart
  have hexec := exec_frameXact_of_open (s := s) hl ⟨hlo, hhi⟩
  generalize s.buildAdu n.toNat = b at *
  obtain ⟨-, -, -, hepoch, -, -, hmem, -⟩ := enter_frame (b.accept Opcode.frameXact).dropFrame.setBusy .flush
  have hbytes : ∀ a, ((b.accept Opcode.frameXact).dropFrame.setBusy.enter .flush).byteAt a = b.byteAt a :=
    byteAt_congr hmem hepoch
  refine ⟨_, hexec, ?_, (hbytes _).trans hslave, (hbytes _).trans hlow, (hbytes _).trans hhigh,
    fun a h0 h1 h2 => (hbytes a).trans (hother a h0 h1 h2)⟩
  rw [hmem]
  exact hstart

/-! ### The link and TX_LEN (R170) -/

/-- A command whose length check is its only accept-time check never ends with the error of the link check. -/
theorem withLength_outcome {lo hi : Nat} {n : Half} {s : State} {body : Nat → State → State}
    (h : ((body n.toNat s).err, (body n.toNat s).detail) ≠ (.invalidOperation, 4)) :
    ((withLength lo hi n s body).err, (withLength lo hi n s body).detail) ≠ (.invalidOperation, 4) := by
  obtain e | ⟨-, e⟩ := withLength_cases lo hi n s body <;> rw [e]
  · exact nofun
  · exact h

theorem verify_outcome_ne (s : State) (n : Nat) :
    ((s.verify n).err, (s.verify n).detail) ≠ (.invalidOperation, 4) := fun h =>
  absurd (h ▸ verify_outcome s n) (by decide)

theorem framePdulen_outcome (fc bc : Byte) (s : State) :
    ∃ t, exec (.framePdulen fc bc) s = .next t ∧ (t.err, t.detail) ≠ (.invalidOperation, 4) := by
  simp only [exec, execFramePdulen]
  cases findPduLength fc bc <;> exact ⟨_, rfl, nofun⟩

/-- Settles O9: a failed check on the idle block; the three commands without a link check have other errors. -/
theorem transportCommandsNeedTheLink : Obligations.TransportCommandsNeedTheLink := by
  intro s hs dropped
  refine ⟨fun hl => ⟨?_, ?_, ?_, fun n hlo hhi => ?_⟩, fun hl hlen => ?_, fun n fc bc => ?_⟩
  · exact congrArg _ ((withLink_accept_of_closed hl _ _).trans (finish_accept_of_notMem hs (by decide) _ _))
  · exact congrArg _ ((withLink_accept_of_closed hl _ _).trans (finish_accept_of_notMem hs (by decide) _ _))
  · exact congrArg _ ((withLink_accept_of_closed hl _ _).trans (finish_accept_of_mem hs (by decide) _ _))
  · exact congrArg _ ((withLength_of_legal ⟨hlo, hhi⟩ _ _).trans
      ((withLink_accept_of_closed hl _ _).trans (finish_accept_of_mem hs (by decide) _ _)))
  · exact congrArg _ ((withLink_accept_of_open hl _ _).trans
      ((withAdu_of_none (s := s.accept Opcode.frameSend) hlen _).trans (finish_accept_of_notMem hs (by decide) _ _)))
  · obtain ⟨u, hu, hdetail⟩ := framePdulen_outcome fc bc s
    exact ⟨_, u, _, rfl, hu, rfl, withLength_outcome nofun, hdetail, withLength_outcome (verify_outcome_ne _ _)⟩

end Sys2Proof.Machine
end

section
/-! SUPPORT. The rounds of a running command (spec/42_framer.md R177 to R179, R187): what each answer to each call does, once
for every phase, and the whole rounds put together from that. -/

namespace Sys2Proof.Machine

/-! ### Received bytes (R178) -/

/-- Settles O34: the bytes are stored one after the other, from RX_COUNT on. -/
theorem receivedBytesAreStored : Obligations.ReceivedBytesAreStored := by
  intro s bytes hlen
  refine ⟨?_, fun i hi => rx_storeRx s s.rxCount.toNat bytes hi, fun a ha => byteAt_storeRx_other s _ bytes ha⟩
  rw [receive_rxCount, BitVec.toNat_add, BitVec.toNat_ofNat]
  omega

/-! ### The end of a transfer and of a phase (R187) -/

theorem afterTransfer_of_exhausted {s : State} (h : s.budget.toInt ≤ 0) (p : Phase) :
    afterTransfer s false p = .next (s.finish .timeout 3) := if_pos (exhausted_eq_true.mpr h)

theorem afterTransfer_of_budget {s : State} (h : 0 < s.budget.toInt) (p : Phase) :
    afterTransfer s false p = .next (s.setSub .poll) :=
  if_neg (c := s.exhausted = true) (by simp [exhausted_eq_false.mpr h])

section
variable {s : State}

theorem phaseDone_flush_of_flush (h : s.lastOp = Opcode.frameFlush) : phaseDone .flush s = .next s.finishOk := if_pos h

theorem phaseDone_flush_of_xact (h : s.lastOp = Opcode.frameXact) : phaseDone .flush s = .next (s.enter .send) := by
  simp [phaseDone, h]

theorem phaseDone_send_of_send (h : s.lastOp = Opcode.frameSend) : phaseDone .send s = .next s.finishOk := if_pos h

theorem phaseDone_send_of_xact (h : s.lastOp = Opcode.frameXact) : phaseDone .send s = .next (s.enter .rxHdr) := by
  simp [phaseDone, h]

end

/-- A counter that a transfer raises reaches its goal exactly when the transfer takes all that was left. -/
theorem count_eq_goal_iff {count goal : Half} {k : Nat} (hlt : count < goal) (hk : k ≤ goal.toNat - count.toNat) :
    count + BitVec.ofNat 16 k = goal ↔ k = goal.toNat - count.toNat := by
  have hlt : count.toNat < goal.toNat := hlt
  have hgoal := goal.isLt
  rw [← BitVec.toNat_inj, BitVec.toNat_add, BitVec.toNat_ofNat]
  omega

/-! ### The rounds of an open link -/

/-- A step that takes a round on an open link is the round of its phase. -/
theorem step_of_runningOpen {s : State} {p : Phase} {x : Sub} {a : Answer} {now : Word} {rest : List Input}
    (h : RunningOpen s p x) (hi : s.inputs = .round a now :: rest) :
    (p = .flush → step s = flushRound (some a) (s.took rest now)) ∧
      (p = .send → step s = sendRound (some a) (s.took rest now)) ∧
      (p = .rxHdr ∨ p = .rxRest → step s = recvRound (some a) (s.took rest now)) := by
  obtain ⟨hb, hr, hl, rfl, -⟩ := h
  rw [step_round hb hr hi]
  exact blockRound_of_open (s := s.took rest now) hl (some a)

section
variable {s : State} {p : Phase} {now : Word} {rest : List Input}

/-- The poll of a flush round: a quiet line ends the phase (R179). -/
theorem step_flush_poll (h : RunningOpen s .flush .poll) {r : PollAnswer} (hi : s.inputs = .round (.poll r) now :: rest) :
    step s = pollRound (.pollReadable (s.flushPollMs.setWidth 32)) (some (.poll r)) (s.took rest now) (phaseDone .flush) := by
  obtain ⟨hflush, -, -⟩ := step_of_runningOpen h hi
  obtain ⟨-, -, -, -, hx⟩ := h
  rw [hflush rfl, flushRound, show (s.took rest now).sub = .poll from hx]
  rfl

/-- The poll of a SEND round (R177). -/
theorem step_send_poll (h : RunningOpen s .send .poll) {r : PollAnswer} (hi : s.inputs = .round (.poll r) now :: rest) :
    step s = pollRound (.pollWritable s.budget) (some (.poll r)) (s.took rest now) fun u => .next (u.finish .timeout 2) := by
  obtain ⟨-, hsend, -⟩ := step_of_runningOpen h hi
  obtain ⟨-, -, -, -, hx⟩ := h
  rw [hsend rfl, sendRound, show (s.took rest now).sub = .poll from hx]
  rfl

/-- The poll of a receive round (R178). -/
theorem step_recv_poll (hp : p = .rxHdr ∨ p = .rxRest) (h : RunningOpen s p .poll) {r : PollAnswer}
    (hi : s.inputs = .round (.poll r) now :: rest) :
    step s = pollRound (.pollReadable s.budget) (some (.poll r)) (s.took rest now) fun u => .next (u.finish .timeout 2) := by
  obtain ⟨-, -, hrecv⟩ := step_of_runningOpen h hi
  obtain ⟨-, -, -, -, hx⟩ := h
  rw [hrecv hp, recvRound, show (s.took rest now).sub = .poll from hx]
  rfl

/-- A flush read that fails (R179). -/
theorem step_flush_err (h : RunningOpen s .flush .xfer) {e : LinkError}
    (hi : s.inputs = .round (.read (.err e)) now :: rest) :
    step s = .next (((s.took rest now).call (.read 260)).finish (LinkError.kind e) 2) := by
  obtain ⟨hflush, -, -⟩ := step_of_runningOpen h hi
  obtain ⟨-, -, -, -, hx⟩ := h
  rw [hflush rfl, flushRound, show (s.took rest now).sub = .xfer from hx]
  rfl

/-- A flush read that delivers bytes, as a choice on their number and on the budget left (R179). -/
theorem step_flush_read (h : RunningOpen s .flush .xfer) {bytes : List Byte}
    (hi : s.inputs = .round (.read (.ok bytes)) now :: rest) :
    let d := ((s.took rest now).call (.read 260)).deliver bytes
    let v := d.addFlushCount bytes.length
    step s = if 260 < bytes.length then .next (d.finish .internalError 1)
      else if v.exhausted then .next (v.finish .busy 1) else .next (v.setSub .poll) := by
  obtain ⟨hflush, -, -⟩ := step_of_runningOpen h hi
  obtain ⟨-, -, -, -, hx⟩ := h
  rw [hflush rfl, flushRound, show (s.took rest now).sub = .xfer from hx]
  rfl

/-- A write that fails (R177). -/
theorem step_send_err (h : RunningOpen s .send .xfer) (hlt : s.txWritten < s.txLen) (hmax : s.txLen.toNat ≤ 260)
    {e : LinkError} (hi : s.inputs = .round (.write (.err e)) now :: rest) :
    step s = .next (((s.took rest now).call (.write (s.txBytes s.txWritten.toNat s.txLen.toNat))).finish
      (LinkError.kind e) 2) := by
  obtain ⟨-, hsend, -⟩ := step_of_runningOpen h hi
  obtain ⟨-, -, -, -, hx⟩ := h
  rw [hsend rfl, sendRound, show (s.took rest now).sub = .xfer from hx]
  exact if_pos ⟨hlt, hmax⟩

/-- A write that the transport answers with a number of bytes (R177). -/
theorem step_send_write (h : RunningOpen s .send .xfer) (hlt : s.txWritten < s.txLen) (hmax : s.txLen.toNat ≤ 260)
    {k : Nat} (hi : s.inputs = .round (.write (.ok k)) now :: rest) :
    let bytes := s.txBytes s.txWritten.toNat s.txLen.toNat
    let u := (s.took rest now).call (.write bytes)
    let v := u.transmit bytes k
    step s = if bytes.length < k then .next (u.finish .internalError 1)
      else afterTransfer v (v.txWritten == v.txLen) .send := by
  obtain ⟨-, hsend, -⟩ := step_of_runningOpen h hi
  obtain ⟨-, -, -, -, hx⟩ := h
  rw [hsend rfl, sendRound, show (s.took rest now).sub = .xfer from hx]
  exact if_pos ⟨hlt, hmax⟩

/-- A write that takes only some of the bytes offered leaves the phase incomplete. -/
theorem step_send_part (h : RunningOpen s .send .xfer) (hlt : s.txWritten < s.txLen) (hmax : s.txLen.toNat ≤ 260)
    {k : Nat} (hk : k < (s.txBytes s.txWritten.toNat s.txLen.toNat).length)
    (hi : s.inputs = .round (.write (.ok k)) now :: rest) :
    let bytes := s.txBytes s.txWritten.toNat s.txLen.toNat
    step s = afterTransfer (((s.took rest now).call (.write bytes)).transmit bytes k) false .send := by
  have hne : s.txWritten + BitVec.ofNat 16 k ≠ s.txLen := fun he => by
    rw [txBytes_length] at hk
    exact hk.ne ((count_eq_goal_iff hlt hk.le).mp he)
  rw [step_send_write h hlt hmax hi, if_neg (not_lt.mpr hk.le)]
  exact congrArg (afterTransfer _ · _) (beq_eq_false_iff_ne.mpr hne)

/-- A write that takes all the bytes offered ends the phase. -/
theorem step_send_whole (h : RunningOpen s .send .xfer) (hlt : s.txWritten < s.txLen) (hmax : s.txLen.toNat ≤ 260)
    {k : Nat} (hk : k = (s.txBytes s.txWritten.toNat s.txLen.toNat).length)
    (hi : s.inputs = .round (.write (.ok k)) now :: rest) :
    let bytes := s.txBytes s.txWritten.toNat s.txLen.toNat
    step s = phaseDone .send (((s.took rest now).call (.write bytes)).transmit bytes k) := by
  have he : s.txWritten + BitVec.ofNat 16 k = s.txLen := by
    rw [txBytes_length] at hk
    exact (count_eq_goal_iff hlt hk.le).mpr hk
  rw [step_send_write h hlt hmax hi, if_neg (not_lt.mpr hk.le)]
  exact congrArg (afterTransfer _ · _) (beq_iff_eq.mpr he)

/-- A read that fails (R178). -/
theorem step_recv_err (hp : p = .rxHdr ∨ p = .rxRest) (h : RunningOpen s p .xfer) (hlt : s.rxCount < s.rxNeed)
    (hmax : s.rxNeed.toNat ≤ 260) {e : LinkError} (hi : s.inputs = .round (.read (.err e)) now :: rest) :
    step s = .next (((s.took rest now).call (.read (s.rxNeed.toNat - s.rxCount.toNat))).finish (LinkError.kind e) 2) := by
  obtain ⟨-, -, hrecv⟩ := step_of_runningOpen h hi
  obtain ⟨-, -, -, -, hx⟩ := h
  rw [hrecv hp, recvRound, show (s.took rest now).sub = .xfer from hx]
  exact if_pos ⟨hlt, hmax⟩

/-- A read that delivers bytes (R178). -/
theorem step_recv_read (hp : p = .rxHdr ∨ p = .rxRest) (h : RunningOpen s p .xfer) (hlt : s.rxCount < s.rxNeed)
    (hmax : s.rxNeed.toNat ≤ 260) {bytes : List Byte} (hi : s.inputs = .round (.read (.ok bytes)) now :: rest) :
    let want := s.rxNeed.toNat - s.rxCount.toNat
    let d := ((s.took rest now).call (.read want)).deliver bytes
    let v := d.receive bytes
    step s = if want < bytes.length then .next (d.finish .internalError 1)
      else afterTransfer v (v.rxCount == v.rxNeed) v.phase := by
  obtain ⟨-, -, hrecv⟩ := step_of_runningOpen h hi
  obtain ⟨-, -, -, -, hx⟩ := h
  rw [hrecv hp, recvRound, show (s.took rest now).sub = .xfer from hx]
  exact if_pos ⟨hlt, hmax⟩

/-- A read that delivers only some of the bytes wanted leaves the phase incomplete. -/
theorem step_recv_part (hp : p = .rxHdr ∨ p = .rxRest) (h : RunningOpen s p .xfer) (hlt : s.rxCount < s.rxNeed)
    (hmax : s.rxNeed.toNat ≤ 260) {bytes : List Byte} (hk : bytes.length < s.rxNeed.toNat - s.rxCount.toNat)
    (hi : s.inputs = .round (.read (.ok bytes)) now :: rest) :
    let v := (((s.took rest now).call (.read (s.rxNeed.toNat - s.rxCount.toNat))).deliver bytes).receive bytes
    step s = afterTransfer v false v.phase := by
  intro v
  have hne : v.rxCount ≠ v.rxNeed := by
    rw [receive_rxCount, receive_rxNeed]
    exact fun he => hk.ne ((count_eq_goal_iff hlt hk.le).mp he)
  rw [step_recv_read hp h hlt hmax hi, if_neg (not_lt.mpr hk.le)]
  exact congrArg (afterTransfer _ · _) (beq_eq_false_iff_ne.mpr hne)

/-- A read that delivers all the bytes wanted ends the phase. -/
theorem step_recv_whole (hp : p = .rxHdr ∨ p = .rxRest) (h : RunningOpen s p .xfer) (hlt : s.rxCount < s.rxNeed)
    (hmax : s.rxNeed.toNat ≤ 260) {bytes : List Byte} (hk : bytes.length = s.rxNeed.toNat - s.rxCount.toNat)
    (hi : s.inputs = .round (.read (.ok bytes)) now :: rest) :
    let v := (((s.took rest now).call (.read (s.rxNeed.toNat - s.rxCount.toNat))).deliver bytes).receive bytes
    step s = phaseDone v.phase v := by
  intro v
  have he : v.rxCount = v.rxNeed := by
    rw [receive_rxCount, receive_rxNeed]
    exact (count_eq_goal_iff hlt hk.le).mpr hk
  rw [step_recv_read hp h hlt hmax hi, if_neg (not_lt.mpr hk.le)]
  exact congrArg (afterTransfer _ · _) (beq_iff_eq.mpr he)

end

/-! ### The whole rounds -/

/-- While a frame is received, bytes are wanted, and RXBUF has room for them (R43, R45). -/
theorem Inv.receiving_lengths {s : State} (hi : Inv s) (hp : s.phase = .rxHdr ∨ s.phase = .rxRest) :
    s.rxCount < s.rxNeed ∧ s.rxNeed.toNat ≤ 260 := by
  obtain ⟨-, -, -, -, ⟨hmax, -, hhdr, hrest⟩, -⟩ := hi
  rw [BitVec.lt_def]
  rcases hp with hp | hp
  · have := hhdr hp
    omega
  · have := hrest hp
    omega


/-- A round that finds the link closed ends the command (R76). -/
theorem step_round_of_closed {s : State} {a : Answer} {now : Word} {rest : List Input} (hi : Inv s) (hb : s.busy = true)
    (hr : s.resetAsserted = false) (hl : s.linkOpen = false) (hin : s.inputs = .round a now :: rest) :
    step s = .next ((s.took rest now).finish .linkBroken 3) := by
  rw [step_round hb hr hin]
  exact blockRound_of_closed (s := s.took rest now) hi hb hl _

/-- Settles O43: a write is complete exactly when all the bytes offered were taken. (The model's `sendRound` has the plain
name.) -/
theorem wholeSendRound : Obligations.SendRound := by
  intro s now rest hi hb hr hp
  refine ⟨fun a hl hin => step_round_of_closed hi hb hr hl hin, fun r hl hx hin => ?_, fun r hl hx hin => ?_⟩
  · rw [step_send_poll ⟨hb, hr, hl, hp, hx⟩ hin]
    cases r with
    | ready | idle => rfl
    | err e => cases e <;> rfl
  · obtain ⟨-, -, -, ⟨-, hmax, -, hlt, -⟩, -⟩ := hi
    have hlt : s.txWritten < s.txLen := hlt hp
    have hmax : s.txLen.toNat ≤ 260 := by omega
    have hopen : RunningOpen s .send .xfer := ⟨hb, hr, hl, hp, hx⟩
    intro bytes u
    refine ⟨?_, ?_, ?_⟩
    · rintro rfl; exact step_send_err hopen hlt hmax hin
    · rintro rfl; exact step_send_err hopen hlt hmax hin
    rintro k rfl v
    have hpart (h : k < bytes.length) : step s = afterTransfer v false .send :=
      step_send_part hopen hlt hmax h hin
    have hwhole (h : k = bytes.length) : step s = phaseDone .send v := step_send_whole hopen hlt hmax h hin
    refine ⟨fun h => ?_, fun h hv => ?_, fun h hv => ?_, fun h ho => ?_, fun h ho hv => ?_, fun h ho hv => ?_⟩
    · rw [step_send_write hopen hlt hmax hin, if_pos h]
    · rw [hpart h, afterTransfer_of_exhausted hv]
    · rw [hpart h, afterTransfer_of_budget hv]; rfl
    · rw [hwhole h, phaseDone_send_of_send (s := v) ho]; rfl
    · rw [hwhole h, phaseDone_send_of_xact (s := v) ho, enter_of_exhausted hv]; rfl
    · rw [hwhole h, phaseDone_send_of_xact (s := v) ho, enter_of_budget hv]; rfl

/-- Settles O44: a read is complete exactly when all the bytes wanted were delivered. -/
theorem receiveRound : Obligations.ReceiveRound := by
  intro s now rest hi hb hr hp
  refine ⟨fun a hl hin => step_round_of_closed hi hb hr hl hin, fun r hl hx hin => ?_, fun r hl hx hin => ?_⟩
  · rw [step_recv_poll hp ⟨hb, hr, hl, rfl, hx⟩ hin]
    cases r with
    | ready | idle => rfl
    | err e => cases e <;> rfl
  · have hopen : RunningOpen s s.phase .xfer := ⟨hb, hr, hl, rfl, hx⟩
    obtain ⟨hlt, hmax⟩ := hi.receiving_lengths hp
    refine ⟨?_, ?_, ?_⟩
    · rintro rfl; exact step_recv_err hp hopen hlt hmax hin
    · rintro rfl; exact step_recv_err hp hopen hlt hmax hin
    rintro bytes rfl d v
    have hpart (h : bytes.length < s.rxNeed.toNat - s.rxCount.toNat) : step s = afterTransfer v false v.phase :=
      step_recv_part hp hopen hlt hmax h hin
    have hwhole (h : bytes.length = s.rxNeed.toNat - s.rxCount.toNat) : step s = phaseDone v.phase v :=
      step_recv_whole hp hopen hlt hmax h hin
    have hphase : v.phase = s.phase := receive_phase _ _
    refine ⟨fun h => ?_, fun h hv => ?_, fun h hv => ?_, fun h hq => ?_, fun h hq => ?_⟩
    · rw [step_recv_read hp hopen hlt hmax hin, if_pos h]; rfl
    · rw [hpart h, afterTransfer_of_exhausted hv]
    · rw [hpart h, afterTransfer_of_budget hv]; rfl
    · rw [hwhole h, hphase, hq]
      exact ⟨_, rfl, rfl⟩
    · rw [hwhole h, hphase, hq, phaseDone, show v.rxNeed = s.rxNeed from receive_rxNeed _ _]

/-- Settles O7: the header's last bytes make the read complete. -/
theorem stepRunsTheHeaderReceived : Obligations.StepRunsTheHeaderReceived := by
  intro s bytes now rest hi hopen hin hcount
  obtain ⟨hb, hr, hl, hp, hx⟩ := hopen
  obtain ⟨-, -, -, -, ⟨-, -, hhdr, -⟩, -⟩ := id hi
  have hneed : s.rxNeed.toNat - s.rxCount.toNat = bytes.length := by
    have := (hhdr hp).1
    omega
  obtain ⟨-, -, hread⟩ := receiveRound s now rest hi hb hr (.inl hp)
  obtain ⟨-, -, hok⟩ := hread _ hl hx hin
  obtain ⟨-, -, -, hheader, -⟩ := hok bytes rfl
  have h := hheader hneed.symm hp
  rw [hneed] at h
  exact h

/-- Settles O45: a quiet poll ends the phase, and what is read before that only counts. (The model's `flushRound` has the plain
name.) -/
theorem wholeFlushRound : Obligations.FlushRound := by
  intro s now rest hi hb hr hp
  refine ⟨fun a hl hin => step_round_of_closed hi hb hr hl hin, fun r hl hx hin => ?_, fun r hl hx hin => ?_⟩
  · intro u
    have hstep := step_flush_poll ⟨hb, hr, hl, hp, hx⟩ hin
    refine ⟨?_, ?_, ?_, ?_, ?_, ?_⟩
    · rintro rfl; exact hstep
    · rintro rfl; exact hstep
    · rintro rfl; exact hstep
    · rintro rfl ho; exact hstep.trans (phaseDone_flush_of_flush ho)
    · rintro rfl ho hv; exact hstep.trans ((phaseDone_flush_of_xact (s := u) ho).trans (congrArg _ (enter_of_exhausted hv)))
    · rintro rfl ho hv; exact hstep.trans ((phaseDone_flush_of_xact (s := u) ho).trans (congrArg _ (enter_of_budget hv)))
  · have hopen : RunningOpen s .flush .xfer := ⟨hb, hr, hl, hp, hx⟩
    refine ⟨?_, ?_, ?_⟩
    · rintro rfl; exact step_flush_err hopen hin
    · rintro rfl; exact step_flush_err hopen hin
    rintro bytes rfl d v
    have hstep := step_flush_read hopen hin
    refine ⟨fun h => ?_, fun h hv => ?_, fun h hv => ?_⟩
    · rw [hstep, if_pos h]; rfl
    · rw [hstep, if_neg (not_lt.mpr h)]
      exact if_pos (exhausted_eq_true.mpr hv)
    · rw [hstep, if_neg (not_lt.mpr h)]
      exact if_neg (Bool.eq_false_iff.mp (exhausted_eq_false.mpr hv))

end Sys2Proof.Machine
end

section
/-! SUPPORT. What a round of a running command is (spec/42_framer.md R187, R188): one call, one charge, and one way to go on;
and that no other step makes a call. -/

namespace Sys2Proof.Machine

/-! ### The account of a call (R80, R158) -/

/-- What only a transport call, a charge or an input can change: the calls made, the budget and its mark, the time, and the
inputs to come. -/
def State.account (s : State) : List Call × Word × Word × Word × List Input := (s.calls, s.budget, s.mark, s.now, s.inputs)

theorem receive_account (s : State) (bytes : List Byte) : (s.receive bytes).account = s.account := by
  rw [receive_eq]; rfl

theorem enter_account (s : State) (p : Phase) : (s.enter p).account = s.account := by
  rcases Int.lt_or_le 0 s.budget.toInt with h | h
  · rw [enter_of_budget h]
    cases p <;> rfl
  · rw [enter_of_exhausted h]
    rfl

theorem verify_account (s : State) (n : Nat) : (s.verify n).account = s.account := by
  unfold State.verify
  dsimp only
  split_ifs <;> rfl

theorem headerEnd_account (len : PduLength) (s : State) : (headerEnd len s).account = s.account := by
  cases len with
  | ok l => exact enter_account _ _
  | unsupported | outOfRange => rfl

/-- The end of a phase makes no call and no charge. -/
theorem phaseDone_account {p : Phase} {s t : State} (h : phaseDone p s = .next t) : t.account = s.account := by
  cases p with
  | flush | send =>
    simp only [phaseDone] at h
    split at h
    · cases h; rfl
    · split at h <;> cases h
      exact enter_account _ _
  | rxHdr =>
    rw [phaseDone, exec_decodeHeader] at h
    cases h
    exact headerEnd_account _ _
  | rxRest => cases h; exact verify_account _ _
  | idle | verify => cases h

/-! ### A round of an open link -/

/-- How a round of phase `p` goes on, once its call and transfer have left `v`. -/
inductive RoundEnd (p : Phase) (v : State) : State → Prop
  | failed {k : ErrKind} {d : Byte} (hk : (k, d) ∈ roundErrors) : RoundEnd p v (v.finish k d)
  | goesOn (x : Sub) : RoundEnd p v (v.setSub x)
  | phaseDone {t : State} (h : phaseDone p v = .next t) : RoundEnd p v t

/-- A round makes the one call of its PHASE and SUB, and charges once. -/
inductive OpenRound (u t : State) : Prop
  | intro (c : Call) (v : State) (hc : u.nextCall = some c) (hv : Worked u v) (ha : v.account = (u.call c).account)
      (ht : RoundEnd u.phase v t)

theorem RoundEnd.account {p : Phase} {v t : State} (h : RoundEnd p v t) : t.account = v.account := by
  cases h with
  | failed | goesOn => rfl
  | phaseDone h => exact phaseDone_account h

theorem roundEnd_of_pollRound {c : Call} {a : Option Answer} {u t : State} {p : Phase} {onIdle : State → Result}
    (hidle : onIdle (u.call c) = .next t → RoundEnd p (u.call c) t) (h : pollRound c a u onIdle = .next t) :
    RoundEnd p (u.call c) t := by
  simp only [pollRound] at h
  split at h
  · next e _ => cases h; exact .failed (linkError_mem_roundErrors e).1
  · exact hidle h
  · cases h; exact .goesOn _

theorem roundEnd_of_afterTransfer {v t : State} {complete : Bool} {p : Phase}
    (h : afterTransfer v complete p = .next t) : RoundEnd p v t := by
  unfold afterTransfer at h
  split at h
  · exact .phaseDone h
  · split at h <;> cases h
    · exact .failed (by decide)
    · exact .goesOn _

theorem openRound_of_sendRound {a : Option Answer} {u t : State} (hp : u.phase = .send) (h : sendRound a u = .next t) :
    OpenRound u t := by
  unfold sendRound at h
  split at h
  · next hx =>
    refine ⟨_, _, by rw [State.nextCall, hp, hx], .called _, rfl, roundEnd_of_pollRound (fun h => ?_) h⟩
    cases h
    exact .failed (by decide)
  · next hx =>
    have hcall : u.nextCall = some (.write (u.txBytes u.txWritten.toNat u.txLen.toNat)) := by rw [State.nextCall, hp, hx]
    split at h
    · next hlt =>
      dsimp only at h
      split at h
      · next e _ => cases h; exact ⟨_, _, hcall, .called _, rfl, .failed (linkError_mem_roundErrors e).2⟩
      · next k _ =>
        split at h
        · cases h; exact ⟨_, _, hcall, .called _, rfl, .failed (by decide)⟩
        · next hk =>
          rw [txBytes_length, not_lt] at hk
          exact ⟨_, _, hcall, .sent _ k hp hlt.1 hk, rfl, hp ▸ roundEnd_of_afterTransfer h⟩
    · cases h

theorem openRound_of_recvRound {a : Option Answer} {u t : State} (hp : u.phase = .rxHdr ∨ u.phase = .rxRest)
    (h : recvRound a u = .next t) : OpenRound u t := by
  unfold recvRound at h
  split at h
  · next hx =>
    have hcall : u.nextCall = some (.pollReadable u.budget) := by
      rcases hp with hp | hp <;> rw [State.nextCall, hp, hx]
    refine ⟨_, _, hcall, .called _, rfl, roundEnd_of_pollRound (fun h => ?_) h⟩
    cases h
    exact .failed (by decide)
  · next hx =>
    have hcall : u.nextCall = some (.read (u.rxNeed.toNat - u.rxCount.toNat)) := by
      rcases hp with hp | hp <;> rw [State.nextCall, hp, hx]
    split at h
    · next hlt =>
      dsimp only at h
      split at h
      · next e _ => cases h; exact ⟨_, _, hcall, .called _, rfl, .failed (linkError_mem_roundErrors e).2⟩
      · next bytes _ =>
        split at h
        · cases h; exact ⟨_, _, hcall, .delivered _ bytes, rfl, .failed (by decide)⟩
        · next hk =>
          have hend := roundEnd_of_afterTransfer h
          rw [receive_phase] at hend
          exact ⟨_, _, hcall, .received _ bytes hp hlt.1 (not_lt.mp hk), receive_account _ _, hend⟩
    · cases h

theorem openRound_of_flushRound {a : Option Answer} {u t : State} (hp : u.phase = .flush) (h : flushRound a u = .next t) :
    OpenRound u t := by
  unfold flushRound at h
  split at h
  · next hx =>
    exact ⟨_, _, by rw [State.nextCall, hp, hx], .called _, rfl, hp ▸ roundEnd_of_pollRound .phaseDone h⟩
  · next hx =>
    have hcall : u.nextCall = some (.read 260) := by rw [State.nextCall, hp, hx]
    dsimp only at h
    split at h
    · next e _ => cases h; exact ⟨_, _, hcall, .called _, rfl, .failed (linkError_mem_roundErrors e).2⟩
    · next bytes _ =>
      split at h
      · cases h; exact ⟨_, _, hcall, .delivered _ bytes, rfl, .failed (by decide)⟩
      · split at h <;> cases h
        · exact ⟨_, _, hcall, .flushed _ bytes, rfl, .failed (by decide)⟩
        · exact ⟨_, _, hcall, .flushed _ bytes, rfl, .goesOn _⟩

/-- Every round of an open link is one call and one charge. -/
theorem openRound_of_blockRound {a : Option Answer} {u t : State} (hl : u.linkOpen = true)
    (h : blockRound a u = .next t) : OpenRound u t := by
  obtain ⟨hflush, hsend, hrecv⟩ := blockRound_of_open hl a
  cases hp : u.phase with
  | flush => exact openRound_of_flushRound hp (hflush hp ▸ h)
  | send => exact openRound_of_sendRound hp (hsend hp ▸ h)
  | rxHdr => exact openRound_of_recvRound (.inl hp) (hrecv (.inl hp) ▸ h)
  | rxRest => exact openRound_of_recvRound (.inr hp) (hrecv (.inr hp) ▸ h)
  | idle | verify => simp [blockRound, hp] at h

/-! ### Steps that are no round -/

theorem AcceptCase.calls {u t : State} (h : AcceptCase u t) : t.calls = u.calls := by
  have entered (v : State) (p : Phase) : (v.enter p).calls = v.calls := (enter_frame v p).1
  cases h with
  | failed | crc | load | charge | pdulen => rfl
  | build => simp
  | verify => exact congrArg Prod.fst (verify_account _ _)
  | flush | send | recv => exact entered _ _
  | xact => rw [entered]; simp

theorem WriteCase.calls {u t : State} (h : WriteCase u t) : t.calls = u.calls := by
  cases h with
  | command h => exact h.calls
  | register h => rw [h]
  | txByte i b hi h => rw [h]; rfl
  | rxByte i b hi h => rw [h]; rfl

theorem calls_of_hostAccess {off : BitVec 11} {x : Access} {u t : State} (h : hostAccess off x u = .next t) :
    t.calls = u.calls := by
  cases x with
  | read w =>
    simp only [hostAccess] at h
    split at h <;> cases h
    rfl
  | write w v =>
    simp only [hostAccess] at h
    split at h
    · cases h
    · next htgt =>
      split at h
      · cases h; rfl
      · exact (writeTarget_cases htgt h).calls

theorem calls_of_hostAccessInReset {off : BitVec 11} {x : Access} {u t : State} (h : hostAccessInReset off x u = .next t) :
    t.calls = u.calls := by
  cases x <;> simp only [hostAccessInReset] at h <;> split at h <;> cases h <;> rfl

/-- A command runs, RESET is released, and no input but a round is next: the step is a round (R188). -/
abbrev TakesRound (s : State) : Prop :=
  s.busy = true ∧ s.resetAsserted = false ∧ ∀ x rest, s.inputs = x :: rest → x.isRound = true

/-- Such a step is the round of the running command, with the answer and the time of its input if it has one. -/
theorem step_of_takesRound {s : State} (h : TakesRound s) :
    ∃ a now rest, step s = blockRound a (s.took rest now) ∧
      ∀ a' now' rest', s.inputs = .round a' now' :: rest' → now = now' ∧ rest = rest' := by
  obtain ⟨hb, hr, hround⟩ := h
  cases hin : s.inputs with
  | nil => exact ⟨none, _, s.inputs, step_quiet_busy hb hr hin, nofun⟩
  | cons x rest =>
    have hx := hround x rest hin
    cases x with
    | round a now =>
      refine ⟨some a, now, rest, step_round hb hr hin, fun a' now' rest' he => ?_⟩
      cases he
      exact ⟨rfl, rfl⟩
    | host | bus | link | reset => cases hx

/-- Any other step makes no call. -/
theorem calls_of_not_takesRound {s t : State} (hn : ¬TakesRound s) (h : step s = .next t) : t.calls = s.calls := by
  cases hin : s.inputs with
  | nil =>
    simp only [step, hin, quietStep] at h
    split at h
    · cases h; rfl
    · next hr =>
      split at h
      · next hb => exact absurd ⟨hb, Bool.eq_false_iff.mpr hr, by simp [hin]⟩ hn
      · cases h; rfl
  | cons x rest =>
    cases x with
    | host off x now =>
      rw [step_host hin] at h
      split at h
      · exact calls_of_hostAccessInReset (u := s.took rest now) h
      · exact calls_of_hostAccess (u := s.took rest now) h
    | bus addr x now =>
      cases hw : windowOffset addr with
      | none =>
        simp only [step, hin, takeInput, hw] at h
        split at h <;> cases h <;> rfl
      | some off =>
        rw [step_bus hin hw] at h
        split at h
        · exact calls_of_hostAccessInReset (u := s.took rest now) h
        · exact calls_of_hostAccess (u := s.took rest now) h
    | link isOpen =>
      simp only [step, hin, takeInput] at h
      split at h <;> cases h <;> rfl
    | reset b =>
      rw [step_reset hin] at h
      split at h <;> cases h <;> rfl
    | round a now =>
      rcases Bool.eq_false_or_eq_true s.resetAsserted with hr | hr
      · simp only [step, hin, takeInput, setNow_resetAsserted, setInputs_resetAsserted, hr, if_true] at h
        cases h; rfl
      · have hb : s.busy = false := Bool.eq_false_iff.mpr fun hb => hn ⟨hb, hr, by simp [hin, Input.isRound]⟩
        cases (step_round_idle hb hr hin).symm.trans h
        rfl

/-- Settles O47: a round on an open link is the one call of its phase and the one charge after it; a closed link ends the
command without a call. -/
theorem everyRoundIsOneCallAndOneCharge : Obligations.EveryRoundIsOneCallAndOneCharge := by
  intro s t hi h isRound
  constructor
  · rintro ⟨hb, hr, hl, hround⟩
    obtain ⟨a, now, rest, hstep, hinput⟩ := step_of_takesRound ⟨hb, hr, hround⟩
    obtain ⟨c, v, hc, -, ha, hend⟩ := openRound_of_blockRound (u := s.took rest now) hl (hstep ▸ h)
    have hc : s.nextCall = some c := hc
    have haccount : t.account = ((s.took rest now).call c).account := hend.account.trans ha
    simp only [State.account, Prod.mk.injEq] at haccount
    obtain ⟨hcalls, hbudget, hmark, hnow, hinputs⟩ := haccount
    refine ⟨by rw [hcalls, hc]; rfl, by simp [hc], by rw [hmark, hnow]; rfl, ?_, fun a' now' rest' hin => ?_, fun hx => ?_⟩
    · rw [hbudget, hnow]
      exact toInt_call _ _
    · obtain ⟨rfl, rfl⟩ := hinput a' now' rest' hin
      exact ⟨hnow, hinputs⟩
    · obtain ⟨-, -, -, -, -, -, -, hpositive, -⟩ := hi
      exact hpositive ⟨hb, hx⟩
  · intro hn
    by_cases hround : TakesRound s
    · obtain ⟨a, now, rest, hstep, -⟩ := step_of_takesRound hround
      obtain ⟨hb, hr, hall⟩ := hround
      have hl : s.linkOpen = false := Bool.eq_false_iff.mpr fun hl => hn ⟨hb, hr, hl, hall⟩
      rw [hstep, blockRound_of_closed (s := s.took rest now) hi hb hl] at h
      cases h
      rfl
    · exact calls_of_not_takesRound hround h

/-! ### The sequence of the phases (R187) -/

/-- A phase that was entered begins with a poll. -/
theorem enter_of_busy {v : State} {p : Phase} (h : (v.enter p).busy = true) :
    (v.enter p).phase = p ∧ (v.enter p).sub = .poll := by
  rcases Int.lt_or_le 0 v.budget.toInt with hb | hb
  · rw [enter_of_budget hb]
    cases p <;> exact ⟨rfl, rfl⟩
  · rw [enter_of_exhausted hb] at h
    cases h

theorem enter_lastOp (v : State) (p : Phase) : (v.enter p).lastOp = v.lastOp := by
  obtain ⟨-, -, -, -, -, -, -, ho, -⟩ := enter_frame v p
  exact ho

/-- A round that leaves the command running keeps LAST_OP and the phase, or begins the next one of the sequence. -/
theorem RoundCase.sequence {u t : State} (h : RoundCase u t) (hseq : SequenceOk u) (ht : t.busy = true) :
    t.lastOp = u.lastOp ∧
      (t.phase = u.phase ∨
        t.sub = .poll ∧
          ((u.phase = .flush ∧ t.phase = .send ∧ u.lastOp = Opcode.frameXact) ∨
            (u.phase = .send ∧ t.phase = .rxHdr ∧ u.lastOp = Opcode.frameXact) ∨
            (u.phase = .rxHdr ∧ t.phase = .rxRest ∧ (u.lastOp = Opcode.frameRecv ∨ u.lastOp = Opcode.frameXact)))) := by
  cases h with
  | failed | succeeded => cases ht
  | ready c => exact ⟨rfl, .inl rfl⟩
  | again hv => exact ⟨hv.lastOp, .inl hv.phase⟩
  | toSend hv hp ho =>
    obtain ⟨hphase, hsub⟩ := enter_of_busy ht
    exact ⟨(enter_lastOp _ _).trans hv.lastOp, .inr ⟨hsub, .inl ⟨hp, hphase, ho⟩⟩⟩
  | toHeader hv hp ho =>
    obtain ⟨hphase, hsub⟩ := enter_of_busy ht
    exact ⟨(enter_lastOp _ _).trans hv.lastOp, .inr ⟨hsub, .inr (.inl ⟨hp, hphase, ho⟩)⟩⟩
  | toRest hv hp =>
    obtain ⟨hphase, hsub⟩ := enter_of_busy ht
    obtain ⟨-, -, hop⟩ := hseq
    exact ⟨(enter_lastOp _ _).trans hv.lastOp, .inr ⟨hsub, .inr (.inr ⟨hp, hphase, hop (.inl hp)⟩)⟩⟩
  | verified =>
    rw [(verify_frame _ _).1] at ht
    cases ht

/-- Settles O48: only a round moves a running command on, and it moves it along its sequence. -/
theorem phasesFollowTheSequence : Obligations.PhasesFollowTheSequence := by
  intro s t hi hb h ht
  cases step_cases h with
  | reset _ hv => exact absurd (hv.1.symm.trans ht) (by decide)
  | pass hp => rw [hp]; exact ⟨rfl, .inl rfl⟩
  | write off w tgt v now rest hidle => exact absurd (hb.symm.trans hidle) (by decide)
  | round a now rest _ h =>
    obtain ⟨-, hseq, -⟩ := hi
    exact (blockRound_cases h).sequence hseq ht

end Sys2Proof.Machine
end

section
/-! SUPPORT. FRAME.VERIFY, FRAME.RECV and FRAME.XACT leave a valid frame exactly when they succeed (spec/42_framer.md R191). -/

namespace Sys2Proof.Machine

/-- RXBUF holds no verified frame (R27, R46). -/
abbrev Frameless (s : State) : Prop := s.rxValid = false ∧ s.rxPduLen = 0

/-- What verification leaves where no frame was valid: a frame of its PDU's length, or none (R180). -/
theorem verify_leaves {s : State} {n : Nat} (hlo : 4 ≤ n) (hhi : n ≤ 256) (hf : Frameless s) :
    ((s.verify n).err = .success → (s.verify n).rxValid = true ∧ (s.verify n).rxPduLen.toNat = n - 3) ∧
      ((s.verify n).err ≠ .success → Frameless (s.verify n)) := by
  by_cases hslave : s.rx 0 = s.slave
  · by_cases hm : s.rxCrcMatches n = true
    · rw [verify_of_matches hslave hm]
      refine ⟨fun _ => ⟨rfl, ?_⟩, fun h => absurd rfl h⟩
      rw [finishOk_rxPduLen, validFrame_rxPduLen, BitVec.toNat_ofNat]
      omega
    · rw [verify_of_mismatch hslave hm]
      exact ⟨nofun, fun _ => hf⟩
  · rw [verify_of_otherSlave hslave]
    exact ⟨nofun, fun _ => hf⟩

/-! ### The accept step -/

/-- What R191 asks of the accept step of one of the three commands. -/
def AcceptLeaves (op : Byte) (t : State) : Prop :=
  t.lastOp = op ∧ t.done = !t.busy ∧
    (t.done = true ∧ t.err = .success → op = Opcode.frameVerify ∧ t.rxValid = true ∧ 1 ≤ t.rxPduLen.toNat) ∧
    (t.busy = true ∨ t.err ≠ .success → Frameless t)

theorem acceptLeaves_of_finish {v : State} {k : ErrKind} (hf : Frameless v) (hk : k ≠ .success) (d : Byte) :
    AcceptLeaves v.lastOp (v.finish k d) :=
  ⟨rfl, rfl, fun h => absurd h.2 hk, fun _ => hf⟩

/-- The accept of a command that R27 names leaves no frame. -/
theorem frameless_accept {op : Byte} (hop : op ∈ receiveOps) (s : State) : Frameless (s.accept op) := by
  rw [Frameless, accept_rxValid, accept_rxPduLen, if_pos hop, if_pos hop]
  exact ⟨rfl, rfl⟩

theorem acceptLeaves_of_rejected {op : Byte} (hop : op ∈ receiveOps) (s : State) (d : Byte) :
    AcceptLeaves op ((s.accept op).finish .invalidOperation d) :=
  acceptLeaves_of_finish (frameless_accept hop s) (by decide) d

theorem acceptLeaves_of_enter {v : State} (hb : v.busy = true) (hd : v.done = false) (hf : Frameless v) (p : Phase) :
    AcceptLeaves v.lastOp (v.enter p) := by
  rcases Int.lt_or_le 0 v.budget.toInt with h | h
  · rw [enter_of_budget h]
    have hdone : ((v.atPhase p).beginPhase p).done = v.done := by cases p <;> rfl
    have hbusy : ((v.atPhase p).beginPhase p).busy = v.busy := by cases p <;> rfl
    have hop : ((v.atPhase p).beginPhase p).lastOp = v.lastOp := by cases p <;> rfl
    have hframe : Frameless ((v.atPhase p).beginPhase p) := by cases p <;> exact hf
    exact ⟨hop, by rw [hdone, hbusy, hb, hd]; rfl, fun h => absurd (hdone.symm.trans h.1) (by simp [hd]), fun _ => hframe⟩
  · rw [enter_of_exhausted h]
    exact acceptLeaves_of_finish (v := v.atPhase p) hf (by decide) 1

theorem acceptLeaves_of_verify {v : State} {n : Nat} (hlo : 4 ≤ n) (hhi : n ≤ 256) (hf : Frameless v)
    (ho : v.lastOp = Opcode.frameVerify) : AcceptLeaves Opcode.frameVerify (v.verify n) := by
  obtain ⟨hb, hd, -, -, -, hop, -⟩ := verify_frame v n
  obtain ⟨hvalid, hnone⟩ := verify_leaves hlo hhi hf
  refine ⟨hop.trans ho, by rw [hd, hb]; rfl, fun h => ?_, fun h => hnone (h.resolve_left (by simp [hb]))⟩
  obtain ⟨hv, hlen⟩ := hvalid h.2
  exact ⟨rfl, hv, by omega⟩

theorem exec_frameVerify_leaves (n : Half) (s : State) :
    ∃ t, exec (.frameVerify n) s = .next t ∧ AcceptLeaves Opcode.frameVerify t := by
  refine ⟨_, rfl, ?_⟩
  obtain e | ⟨hn, e⟩ := withLength_cases 4 256 n (s.accept Opcode.frameVerify) _ <;> rw [e]
  · exact acceptLeaves_of_rejected (by decide) s 3
  · exact acceptLeaves_of_verify hn.1 hn.2 ⟨rfl, rfl⟩ rfl

theorem exec_frameRecv_leaves (s : State) : ∃ t, exec .frameRecv s = .next t ∧ AcceptLeaves Opcode.frameRecv t := by
  refine ⟨_, rfl, ?_⟩
  obtain e | e := withLink_cases (s.accept Opcode.frameRecv) _ <;> rw [e]
  · exact acceptLeaves_of_rejected (by decide) s 4
  · exact acceptLeaves_of_enter (v := (s.accept Opcode.frameRecv).dropFrame.setBusy) rfl rfl ⟨rfl, rfl⟩ _

theorem exec_frameXact_leaves (n : Half) (s : State) :
    ∃ t, exec (.frameXact n) s = .next t ∧ AcceptLeaves Opcode.frameXact t := by
  refine ⟨_, rfl, ?_⟩
  obtain e | ⟨-, e⟩ := withLength_cases 1 Config.pduMax n (s.accept Opcode.frameXact) _ <;> rw [e]
  · exact acceptLeaves_of_rejected (by decide) s 3
  · obtain e | e := withLink_cases (s.accept Opcode.frameXact) _ <;> rw [e]
    · exact acceptLeaves_of_rejected (by decide) s 4
    · have h := acceptLeaves_of_enter (v := ((s.accept Opcode.frameXact).buildAdu n.toNat).dropFrame.setBusy) rfl
        (by simp) ⟨rfl, rfl⟩ .flush
      simpa using h

/-- The rows of the three commands. -/
theorem exec_of_receiveOps (w : Word) (s : State) : ∀ p ∈ commandTable, p.1 ∈ receiveOps →
    ∃ t, exec (p.2.read w) s = .next t ∧ AcceptLeaves p.1 t := by
  have other {op : Byte} {q : Prop} (hno : op ∉ receiveOps) (hop : op ∈ receiveOps) : q := absurd hop hno
  simp only [commandTable, List.forall_mem_cons]
  exact ⟨other (by decide), other (by decide), other (by decide), other (by decide), other (by decide), other (by decide),
    other (by decide), other (by decide), fun _ => exec_frameVerify_leaves _ s, other (by decide), other (by decide),
    fun _ => exec_frameRecv_leaves s, fun _ => exec_frameXact_leaves _ s, List.forall_mem_nil _⟩

/-- The accept of a word of the three opcodes, whatever check ends it. -/
theorem acceptCommand_leaves {w : Word} (hop : opcodeOf w ∈ receiveOps) (s : State) :
    ∃ t, acceptCommand w s = .next t ∧ AcceptLeaves (opcodeOf w) t := by
  have hc := decode_cases w
  rw [acceptCommand]
  generalize decode (.command w) = answer at hc
  cases hc with
  | reservedOpcode h =>
    obtain ⟨m, hm⟩ := exists_mem_opcodeMap_of_mem_receiveOps hop
    exact absurd hm (h m)
  | reservedBits => exact ⟨_, rfl, acceptLeaves_of_rejected hop s 2⟩
  | command hf => exact exec_of_receiveOps w s _ hf hop

/-! ### The end of a running receive or transaction -/

/-- What R191 asks of the state in which a receive or a transaction has ended. -/
def EndLeaves (t : State) : Prop :=
  (t.err = .success → t.rxValid = true ∧ 2 ≤ t.rxPduLen.toNat) ∧ (t.err ≠ .success → Frameless t)

theorem endLeaves_of_finish {v : State} {k : ErrKind} (hf : Frameless v) (hk : k ≠ .success) (d : Byte) :
    EndLeaves (v.finish k d) := ⟨fun h => absurd h hk, fun _ => hf⟩

/-- A phase that could not be entered ended the command without a frame. -/
theorem endLeaves_of_enter {v : State} {p : Phase} (hb : v.busy = true) (hf : Frameless v) (ht : (v.enter p).busy = false) :
    EndLeaves (v.enter p) := by
  rcases Int.lt_or_le 0 v.budget.toInt with h | h
  · rw [enter_of_budget h] at ht
    have hbusy : ((v.atPhase p).beginPhase p).busy = v.busy := by cases p <;> rfl
    exact absurd (hb.symm.trans (hbusy.symm.trans ht)) (by decide)
  · rw [enter_of_exhausted h]
    exact endLeaves_of_finish hf (by decide) 1

theorem roundErrors_ne_success : ∀ o ∈ roundErrors, o.1 ≠ .success := by decide

/-- The end of a phase of a receive or a transaction: only the verification of a whole frame succeeds. -/
theorem endLeaves_of_phaseDone {u v t : State} (hi : Inv u) (hb : u.busy = true)
    (ho : u.lastOp = Opcode.frameRecv ∨ u.lastOp = Opcode.frameXact) (hv : Worked u v) (hf : Frameless v)
    (ht : t.busy = false) (h : phaseDone u.phase v = .next t) : EndLeaves t := by
  have hbusy : v.busy = true := hv.busy.trans hb
  have xact {op : Byte} (h : u.lastOp = op ∨ u.lastOp = Opcode.frameXact)
      (hop : ¬(op = Opcode.frameRecv ∨ op = Opcode.frameXact)) : v.lastOp = Opcode.frameXact :=
    hv.lastOp.trans (h.resolve_left fun h => hop (h ▸ ho))
  obtain ⟨-, ⟨hflush, hsend, -⟩, -, -, ⟨hmax, -, -, hrest⟩, -⟩ := hi
  cases hp : u.phase with
  | flush =>
    rw [hp, phaseDone_flush_of_xact (xact (hflush hp) (by decide))] at h
    cases h
    exact endLeaves_of_enter hbusy hf ht
  | send =>
    rw [hp, phaseDone_send_of_xact (xact (hsend hp) (by decide))] at h
    cases h
    exact endLeaves_of_enter hbusy hf ht
  | rxHdr =>
    rw [hp, phaseDone, exec_decodeHeader] at h
    cases h
    cases hl : findPduLength (v.rx 1) (v.rx 2) with
    | ok l =>
      rw [hl] at ht
      exact endLeaves_of_enter (v := v.setRxNeed (l + 3)) hbusy hf ht
    | unsupported | outOfRange => exact endLeaves_of_finish hf (by decide) _
  | rxRest =>
    rw [hp, phaseDone] at h
    cases h
    obtain ⟨hlo, -⟩ := hrest hp
    obtain ⟨hvalid, hnone⟩ :=
      verify_leaves (n := v.rxNeed.toNat) (by rw [hv.rxNeed]; omega) (by rw [hv.rxNeed]; exact hmax) hf
    refine ⟨fun hs => ?_, hnone⟩
    obtain ⟨hvalid, hlen⟩ := hvalid hs
    rw [hv.rxNeed] at hlen hvalid ⊢
    exact ⟨hvalid, by omega⟩
  | idle | verify => rw [hp] at h; cases h

/-- A round that ends a receive or a transaction leaves a frame exactly when it succeeds. -/
theorem endLeaves_of_blockRound {a : Option Answer} {u t : State} (hi : Inv u) (hb : u.busy = true)
    (ho : u.lastOp = Opcode.frameRecv ∨ u.lastOp = Opcode.frameXact) (ht : t.busy = false)
    (h : blockRound a u = .next t) : EndLeaves t := by
  obtain ⟨-, -, -, -, -, hrecv, -⟩ := id hi
  have hf : Frameless u := hrecv ⟨hb, ho⟩
  obtain hl | hl := Bool.eq_false_or_eq_true u.linkOpen
  · obtain ⟨c, v, -, hv, -, hend⟩ := openRound_of_blockRound hl h
    have hf : Frameless v := by rw [Frameless, hv.rxValid, hv.rxPduLen]; exact hf
    cases hend with
    | failed hk => exact endLeaves_of_finish hf (roundErrors_ne_success _ hk) _
    | goesOn => exact absurd ((hv.busy.trans hb).symm.trans ht) (by decide)
    | phaseDone h => exact endLeaves_of_phaseDone hi hb ho hv hf ht h
  · rw [blockRound_of_closed hi hb hl] at h
    cases h
    exact endLeaves_of_finish hf (by decide) _

/-- Settles O57: the accept drops the frame before any check, and only a verification that succeeds makes one valid. -/
theorem failureLeavesNoFrame : Obligations.FailureLeavesNoFrame := by
  refine ⟨fun s w _ hop => acceptCommand_leaves hop s, fun s t hi hb ho h ht he => ?_⟩
  cases step_cases h with
  | reset hr => exact absurd (he.symm.trans hr) (by omega)
  | pass hp => exact absurd (hb.symm.trans ((congrArg State.busy hp).symm.trans ht)) (by decide)
  | write off w tgt v now rest hidle => exact absurd (hb.symm.trans hidle) (by decide)
  | round a now rest _ h => exact endLeaves_of_blockRound (u := s.took rest now) hi hb ho ht h

end Sys2Proof.Machine
end

section
/-! SUPPORT. A whole FRAME.XACT on an idle line (spec/42_framer.md R186, R187), step by step: its frame is sent, and a correct
answer within the budget is received and verified. -/

namespace Sys2Proof.Machine

/-! ### Frames on the wire (R61) -/

/-- A byte sequence with its CRC after it, low byte first. -/
def framed (bytes : List Byte) : List Byte := bytes ++ [crcLo (crc16 bytes), crcHi (crc16 bytes)]

/-- The bytes of TXBUF before an ADU's CRC, and the two bytes of the CRC. -/
theorem txBytes_add_two (s : State) (n : Nat) : s.txBytes 0 (n + 2) = s.txBytes 0 n ++ [s.tx n, s.tx (n + 1)] := by
  simp [State.txBytes, List.range'_concat]

theorem rxBytes_add_two (s : State) (n : Nat) : s.rxBytes 0 (n + 2) = s.rxBytes 0 n ++ [s.rx n, s.rx (n + 1)] := by
  simp [State.rxBytes, List.range'_concat]

/-- The bytes that FRAME.XACT leaves in TXBUF are the frame of its PDU (R172). -/
theorem txBytes_of_built {s t : State} {n : Nat} (hslave : t.tx 0 = s.slave)
    (hlow : t.tx (n + 1) = crcLo (crc16 (s.slave :: s.txBytes 1 (n + 1))))
    (hhigh : t.tx (n + 2) = crcHi (crc16 (s.slave :: s.txBytes 1 (n + 1))))
    (hother : ∀ k, 1 ≤ k → k < n + 1 → t.tx k = s.tx k) :
    t.txBytes 0 (n + 3) = framed (s.slave :: s.txBytes 1 (n + 1)) := by
  have hpdu : t.txBytes 0 (n + 1) = s.slave :: s.txBytes 1 (n + 1) := by
    have hcons := txBytes_cons t 0 n
    rw [Nat.zero_add, Nat.zero_add, Nat.add_comm 1 n, hslave, txBytes_congr hother] at hcons
    exact hcons
  rw [txBytes_add_two t (n + 1), hpdu, hlow, hhigh]
  rfl

section
variable {s : State} {bytes : List Byte}

/-- The bytes of a frame in RXBUF, and after them their CRC. -/
theorem rxBytes_of_framed (h : s.rxBytes 0 (bytes.length + 2) = framed bytes) :
    s.rxBytes 0 bytes.length = bytes ∧ s.rx bytes.length = crcLo (crc16 bytes) ∧
      s.rx (bytes.length + 1) = crcHi (crc16 bytes) := by
  rw [rxBytes_add_two] at h
  obtain ⟨hbytes, hcrc⟩ := List.append_inj h (by simp)
  exact ⟨hbytes, by simpa using hcrc⟩

/-- A frame in RXBUF passes the CRC check (R180). -/
theorem rxCrcMatches_of_framed (h : s.rxBytes 0 (bytes.length + 2) = framed bytes) :
    s.rxCrcMatches (bytes.length + 2) = true := by
  obtain ⟨hbytes, hcrc⟩ := rxBytes_of_framed h
  rw [rxCrcMatches_iff, Nat.add_sub_cancel, hbytes]
  exact hcrc

/-- The first byte of RXBUF, and those after it. -/
theorem rxBytes_eq_cons_iff {b : Byte} : s.rxBytes 0 (bytes.length + 1) = b :: bytes ↔
    s.rx 0 = b ∧ s.rxBytes 1 (bytes.length + 1) = bytes := by
  simp [State.rxBytes, List.range'_succ]

end

/-! ### The budget along the rounds (R151) -/

/-- What is left of the budget once rounds at these times have charged it. -/
def State.left (s : State) (times : List Word) : Int := s.budget.toInt - elapsedThrough s.mark times

theorem budget_pos_of_left {s : State} {times : List Word} (h : 0 < s.left times) : 0 < s.budget.toInt := by
  unfold State.left at h
  omega

/-- A round charges the first of the times, and leaves what was to be left. -/
theorem left_call {s : State} {t : Word} {times : List Word} (h : 0 < s.left (t :: times)) (rest : List Input) (c : Call) :
    ((s.took rest t).call c).left times = s.left (t :: times) := by
  have hsum : (elapsedThrough s.mark (t :: times) : Int) = (t - s.mark).toNat + elapsedThrough t times := Nat.cast_add _ _
  unfold State.left at h ⊢
  have hcharge : ((s.took rest t).call c).budget.toInt = s.budget.toInt - (t - s.mark).toNat :=
    toInt_charge_of_noClamp (s := { s.took rest t with calls := s.calls ++ [c], draws := s.draws + 1 }) (by
      change -(2 ^ 31) ≤ s.budget.toInt - ((t - s.mark).toNat : Int)
      omega)
  have hmark : ((s.took rest t).call c).mark = t := rfl
  rw [hcharge, hmark, hsum]
  omega

/-! ### The rounds of a transaction -/

/-- From `s` to `t` no byte was moved, and no counter of bytes. -/
structure Polled (s t : State) : Prop where
  txStream : t.txStream = s.txStream
  txWritten : t.txWritten = s.txWritten
  txLen : t.txLen = s.txLen
  rxCount : t.rxCount = s.rxCount
  rxNeed : t.rxNeed = s.rxNeed
  txBytes : ∀ i j, t.txBytes i j = s.txBytes i j
  rxBytes : ∀ i j, t.rxBytes i j = s.rxBytes i j

/-- A FRAME.XACT runs phase `p`, with these inputs before it, and `left` of its budget after the rounds at these times. -/
structure Transacting (slave : Byte) (left : Int) (p : Phase) (x : Sub) (times : List Word) (inputs : List Input)
    (s : State) : Prop where
  running : RunningOpen s p x
  listed : s.inputs = inputs
  op : s.lastOp = Opcode.frameXact
  coll : s.coll = false
  slave : s.slave = slave
  left : s.left times = left

section
variable {slave : Byte} {left : Int} {p : Phase} {x : Sub} {now : Word} {times : List Word} {rest : List Input} {s : State}

/-- After a round's call, one time and one input are used up. -/
theorem Transacting.called (hleft : 0 < left) {i : Input} (h : Transacting slave left p x (now :: times) (i :: rest) s)
    (c : Call) : Transacting slave left p x times rest ((s.took rest now).call c) := by
  obtain ⟨hrun, -, ho, hc, hs, rfl⟩ := h
  exact ⟨hrun, rfl, ho, hc, hs, left_call hleft rest c⟩

/-- While budget is left, the next phase begins. -/
theorem Transacting.enter (hleft : 0 < left) (h : Transacting slave left p x times rest s) {q : Phase} :
    s.enter q = (s.atPhase q).beginPhase q ∧ Transacting slave left q .poll times rest ((s.atPhase q).beginPhase q) := by
  obtain ⟨⟨hb, hr, hl, -, -⟩, hin, ho, hc, hs, rfl⟩ := h
  refine ⟨enter_of_budget (budget_pos_of_left hleft), ?_⟩
  cases q <;> exact ⟨⟨hb, hr, hl, rfl, rfl⟩, hin, ho, hc, hs, rfl⟩

/-- A poll that answers Ready begins the transfer. -/
theorem Transacting.ready (hp : p = .send ∨ p = .rxHdr ∨ p = .rxRest) (hleft : 0 < left)
    (h : Transacting slave left p .poll (now :: times) (.round (.poll .ready) now :: rest) s) :
    ∃ t, step s = .next t ∧ Transacting slave left p .xfer times rest t ∧ Polled s t := by
  have next (c : Call) : Transacting slave left p .xfer times rest (((s.took rest now).call c).setSub .xfer) := by
    obtain ⟨⟨hb, hr, hl, hphase, -⟩, hin, ho, hc, hs, hleft⟩ := h.called hleft c
    exact ⟨⟨hb, hr, hl, hphase, rfl⟩, hin, ho, hc, hs, hleft⟩
  have polled (c : Call) : Polled s (((s.took rest now).call c).setSub .xfer) :=
    ⟨rfl, rfl, rfl, rfl, rfl, fun _ _ => rfl, fun _ _ => rfl⟩
  rcases hp with rfl | hp
  · exact ⟨_, step_send_poll h.running h.listed, next _, polled _⟩
  · exact ⟨_, step_recv_poll hp h.running h.listed, next _, polled _⟩

/-- A quiet line ends the flush, and SEND begins with no byte written (R179, R176). -/
theorem Transacting.quiet (hleft : 0 < left)
    (h : Transacting slave left .flush .poll (now :: times) (.round (.poll .idle) now :: rest) s) :
    ∃ t, step s = .next t ∧ Transacting slave left .send .poll times rest t ∧ t.txWritten = 0 ∧ t.txLen = s.txLen ∧
      t.txStream = s.txStream ∧ ∀ k, t.txBytes 0 k = s.txBytes 0 k := by
  have hcalled := h.called hleft (.pollReadable (s.flushPollMs.setWidth 32))
  obtain ⟨henter, hsend⟩ := hcalled.enter hleft (q := .send)
  exact ⟨_, (step_flush_poll h.running h.listed).trans ((phaseDone_flush_of_xact hcalled.op).trans (congrArg _ henter)),
    hsend, rfl, rfl, rfl, fun _ => rfl⟩

/-- A write that takes the whole frame sends it, and RX_HDR begins with no byte received (R177, R176). -/
theorem Transacting.sent (hleft : 0 < left) {k : Nat}
    (h : Transacting slave left .send .xfer (now :: times) (.round (.write (.ok k)) now :: rest) s)
    (hwritten : s.txWritten = 0) (hlen : s.txLen.toNat = k) (hlo : 0 < k) (hhi : k ≤ 260) :
    ∃ t, step s = .next t ∧ Transacting slave left .rxHdr .poll times rest t ∧
      t.txStream = s.txStream ++ s.txBytes 0 k ∧ t.rxCount = 0 ∧ t.rxNeed = 3 := by
  subst hlen
  have hlt : s.txWritten < s.txLen := by rw [hwritten, BitVec.lt_def]; exact hlo
  have hbytes : s.txBytes s.txWritten.toNat s.txLen.toNat = s.txBytes 0 s.txLen.toNat := by rw [hwritten]; rfl
  have hall : s.txLen.toNat = (s.txBytes s.txWritten.toNat s.txLen.toNat).length := by rw [hbytes, txBytes_length]; rfl
  have hcalled := h.called hleft (.write (s.txBytes s.txWritten.toNat s.txLen.toNat))
  have htaken : Transacting slave left .send .xfer times rest
      (((s.took rest now).call (.write (s.txBytes s.txWritten.toNat s.txLen.toNat))).transmit
        (s.txBytes s.txWritten.toNat s.txLen.toNat) s.txLen.toNat) := by
    obtain ⟨hrun, hin, ho, hc, hs, hl⟩ := hcalled
    exact ⟨hrun, hin, ho, hc, hs, hl⟩
  obtain ⟨henter, hhdr⟩ := htaken.enter hleft (q := .rxHdr)
  refine ⟨_, (step_send_whole h.running hlt hhi hall h.listed).trans
    ((phaseDone_send_of_xact htaken.op).trans (congrArg _ henter)), hhdr, ?_, rfl, rfl⟩
  change s.txStream ++ (s.txBytes s.txWritten.toNat s.txLen.toNat).take s.txLen.toNat = _
  rw [List.take_of_length_le hall.ge, hbytes]

/-- Received bytes leave a transaction where it is. -/
theorem Transacting.received (h : Transacting slave left p x times rest s) (bytes : List Byte) :
    Transacting slave left p x times rest ((s.deliver bytes).receive bytes) := by
  obtain ⟨hrun, hin, ho, hc, hs, hleft⟩ := h
  rw [receive_eq]
  exact ⟨hrun, hin, ho, hc, hs, hleft⟩

/-- A read that delivers all that was wanted fills the frame up to RX_NEED, and ends the phase (R178). -/
theorem Transacting.filled (hp : p = .rxHdr ∨ p = .rxRest) (hleft : 0 < left) {bytes : List Byte}
    (h : Transacting slave left p .xfer (now :: times) (.round (.read (.ok bytes)) now :: rest) s)
    (hlt : s.rxCount < s.rxNeed) (hmax : s.rxNeed.toNat ≤ 260) (hall : bytes.length = s.rxNeed.toNat - s.rxCount.toNat) :
    ∃ v, step s = phaseDone p v ∧ Transacting slave left p .xfer times rest v ∧ v.txStream = s.txStream ∧
      v.rxBytes 0 s.rxNeed.toNat = s.rxBytes 0 s.rxCount.toNat ++ bytes ∧ v.rxCount = s.rxNeed ∧ v.rxNeed = s.rxNeed := by
  let u : State := ((s.took rest now).call (.read (s.rxNeed.toNat - s.rxCount.toNat))).deliver bytes
  have hv : Transacting slave left p .xfer times rest (u.receive bytes) := (h.called hleft _).received bytes
  have hstep : step s = phaseDone (u.receive bytes).phase (u.receive bytes) :=
    step_recv_whole hp h.running hlt hmax hall h.listed
  have hbytes : (u.receive bytes).rxBytes 0 (s.rxCount.toNat + bytes.length) = s.rxBytes 0 s.rxCount.toNat ++ bytes :=
    rxBytes_receive u bytes
  have hsum : s.rxCount.toNat + bytes.length = s.rxNeed.toNat := by
    have : s.rxCount.toNat < s.rxNeed.toNat := hlt
    omega
  obtain ⟨-, -, -, hphase, -⟩ := hv.running
  rw [hphase] at hstep
  rw [hsum] at hbytes
  refine ⟨_, hstep, hv, receive_txStream _ _, hbytes, ?_, receive_rxNeed _ _⟩
  rw [receive_rxCount]
  exact (count_eq_goal_iff hlt hall.le).mpr hall

/-- The read of the header begins RX_REST, with the length the header gives (R183). -/
theorem Transacting.header (hleft : 0 < left) {fc bc : Byte} {len : Nat}
    (h : Transacting slave left .rxHdr .xfer (now :: times) (.round (.read (.ok [slave, fc, bc])) now :: rest) s)
    (hcount : s.rxCount = 0) (hneed : s.rxNeed = 3) (hlen : findPduLength fc bc = .ok len) :
    ∃ t, step s = .next t ∧ Transacting slave left .rxRest .poll times rest t ∧ t.txStream = s.txStream ∧
      t.rxBytes 0 3 = [slave, fc, bc] ∧ t.rxCount = 3 ∧ t.rxNeed.toNat = len + 3 := by
  obtain ⟨v, hstep, hv, hsent, hbytes, hfilled, -⟩ := h.filled (.inl rfl) hleft (by rw [hcount, hneed]; decide)
    (by rw [hneed]; decide) (by rw [hcount, hneed]; rfl)
  rw [hneed] at hfilled
  have hbytes : [v.rx 0, v.rx 1, v.rx 2] = [slave, fc, bc] := by rw [hneed, hcount] at hbytes; exact hbytes
  obtain ⟨-, hfc, hbc⟩ : v.rx 0 = slave ∧ v.rx 1 = fc ∧ v.rx 2 = bc := by simpa using hbytes
  have hneeded : Transacting slave left .rxHdr .xfer times rest (v.setRxNeed (len + 3)) := by
    obtain ⟨hrun, hin, ho, hc, hs, hl⟩ := hv
    exact ⟨hrun, hin, ho, hc, hs, hl⟩
  obtain ⟨henter, hrest⟩ := hneeded.enter hleft (q := .rxRest)
  obtain ⟨-, hrange⟩ := findPduLength_range hlen
  refine ⟨_, ?_, hrest, hsent, hbytes, hfilled, ?_⟩
  · rw [hstep, phaseDone, exec_decodeHeader, hfc, hbc, hlen, headerEnd, henter]
  · change (BitVec.ofNat 16 (len + 3)).toNat = len + 3
    rw [BitVec.toNat_ofNat]
    omega

/-- The read of the rest, when it completes a frame of the slave addressed, ends the command with its PDU valid (R180). -/
theorem Transacting.answered (hleft : 0 < left) {fc bc : Byte} {payload : List Byte}
    (h : Transacting slave left .rxRest .xfer [now]
      (.round (.read (.ok (payload ++ [crcLo (crc16 (slave :: fc :: bc :: payload)),
        crcHi (crc16 (slave :: fc :: bc :: payload))]))) now :: rest) s)
    (hbytes : s.rxBytes 0 3 = [slave, fc, bc]) (hcount : s.rxCount = 3) (hneed : s.rxNeed.toNat = payload.length + 5)
    (hmax : payload.length ≤ 251) :
    ∃ t, step s = .next t ∧ t.inputs = rest ∧
      t.busy = false ∧ t.done = true ∧ t.err = .success ∧ t.endPhase = .verify ∧ t.lastOp = Opcode.frameXact ∧
      t.coll = false ∧ t.txStream = s.txStream ∧ t.rxValid = true ∧
      t.rxPduLen.toNat = payload.length + 2 ∧ t.rxBytes 1 (payload.length + 3) = fc :: bc :: payload ∧
      t.budget.toInt = left := by
  obtain ⟨v, hstep, hv, hsent, hfilled, -, hneed'⟩ := h.filled (.inr rfl) hleft
    (by rw [BitVec.lt_def, hneed, hcount]; change 3 < _; omega) (by omega) (by rw [hneed, hcount]; simp)
  have hframe : v.rxBytes 0 (payload.length + 5) = framed (slave :: fc :: bc :: payload) := by
    rw [hneed, hcount] at hfilled
    rw [hfilled, show (3 : Half).toNat = 3 from rfl, hbytes]
    rfl
  have hmatches : v.rxCrcMatches (payload.length + 5) = true :=
    rxCrcMatches_of_framed (bytes := slave :: fc :: bc :: payload) hframe
  obtain ⟨hanswer, -⟩ := rxBytes_of_framed (bytes := slave :: fc :: bc :: payload) hframe
  obtain ⟨haddress, hpdu⟩ := rxBytes_eq_cons_iff.mp hanswer
  obtain ⟨-, hin, ho, hc, hs, hl⟩ := hv
  have hlen : (BitVec.ofNat 16 (payload.length + 5 - 3)).toNat = payload.length + 2 := by rw [BitVec.toNat_ofNat]; omega
  rw [phaseDone, hneed', hneed, verify_of_matches (haddress.trans hs.symm) hmatches] at hstep
  exact ⟨_, hstep, hin, rfl, rfl, rfl, rfl, ho, hc, hsent, rfl, hlen, hpdu, (Int.sub_zero _).symm.trans hl⟩

end

/-! ### The whole transaction -/

/-- A run goes on after its first step. -/
theorem runSteps_succ {k : Nat} {s t : State} (h : step s = .next t) : runSteps (k + 1) s = runSteps k t := by
  rw [runSteps, h]

/-- The write of FRAME.XACT to CMD builds its frame and begins the flush (R186). -/
theorem transacting_of_xact {s : State} {n : Half} {t0 : Word} {times : List Word} {rest : List Input} (hs : Idle s)
    (hr : s.resetAsserted = false) (hl : s.linkOpen = true) (hn : 1 ≤ n.toNat ∧ n.toNat ≤ 253)
    (hleft : 0 < s.left times) (hin : s.inputs = commandInput t0 (.frameXact n) :: rest) :
    ∃ t, step s = .next t ∧ Transacting s.slave (s.left times) .flush .poll times rest t ∧
      t.txStream = s.txStream ∧ t.txLen.toNat = n.toNat + 3 ∧
      t.txBytes 0 (n.toNat + 3) = framed (s.slave :: s.txBytes 1 (n.toNat + 1)) := by
  have hstep : step s = exec (.frameXact n) (s.took rest t0) := by
    rw [step_write hs.1 hr hin rfl]
    change acceptCommand (commandWord (.frameXact n)) _ = _
    have hdecode : decode (.command (commandWord (.frameXact n))) = .ok (.frameXact n) :=
      decode_encode_of_isCommand (.frameXact n)
    rw [acceptCommand, hdecode]
  obtain ⟨t, hexec, ⟨hstart, -⟩, hslave, hlow, hhigh, hother⟩ := xactStarts (s.took rest t0) n hs hl hn.1 hn.2
  have ht := hstart (budget_pos_of_left hleft)
  refine ⟨t, hstep.trans hexec, ?_, ?_, ?_, txBytes_of_built hslave hlow hhigh fun k hlo hhi => ?_⟩
  · rw [ht]
    exact ⟨⟨rfl, hr, hl, rfl, rfl⟩, rfl, rfl, rfl, rfl, rfl⟩
  · rw [ht]; rfl
  · rw [ht]
    change (n + 3).toNat = _
    bv_omega
  · exact hother (0x100 + k) (by omega) (by omega) (by omega)

/-- Settles O60: the stages of the transaction one after the other. -/
theorem transactionSucceeds : Obligations.TransactionSucceeds := by
  intro s n fc bc payload t0 t1 t2 t3 t4 t5 t6 t7 rest request answer crcBytes hs hr hl hlo hhi hlen htime hin
  have hleft : 0 < s.left [t1, t2, t3, t4, t5, t6, t7] := Int.sub_pos_of_lt htime
  obtain ⟨s1, step1, flushing, stream1, length1, frame1⟩ := transacting_of_xact hs hr hl ⟨hlo, hhi⟩ hleft hin
  obtain ⟨s2, step2, sending, written2, length2, stream2, frame2⟩ := flushing.quiet hleft
  obtain ⟨s3, step3, offered, polled3⟩ := sending.ready (.inl rfl) hleft
  have length3 : s3.txLen.toNat = n.toNat + 3 := by rw [polled3.txLen, length2, length1]
  obtain ⟨s4, step4, receiving, stream4, count4, need4⟩ :=
    offered.sent hleft (polled3.txWritten.trans written2) length3 (by omega) (by omega)
  obtain ⟨s5, step5, asked, polled5⟩ := receiving.ready (.inr (.inl rfl)) hleft
  obtain ⟨s6, step6, headed, stream6, header6, count6, need6⟩ :=
    asked.header hleft (polled5.rxCount.trans count4) (polled5.rxNeed.trans need4) hlen
  obtain ⟨s7, step7, waiting, polled7⟩ := headed.ready (.inr (.inr rfl)) hleft
  obtain ⟨-, hrange⟩ := findPduLength_range hlen
  obtain ⟨t, step8, hinputs, hbusy, hdone, herr, hend, hop, hcoll, hstream, hvalid, hpdu, hbytes, hbudget⟩ :=
    waiting.answered hleft ((polled7.rxBytes 0 3).trans header6) (polled7.rxCount.trans count6)
      ((congrArg BitVec.toNat polled7.rxNeed).trans need6) (by omega)
  have hsent : t.txStream = s.txStream ++ request ++ crcBytes (crc16 request) := by
    calc t.txStream
      _ = s4.txStream := by rw [hstream, polled7.txStream, stream6, polled5.txStream]
      _ = s.txStream ++ framed request := by
        rw [stream4, polled3.txStream, stream2, stream1, polled3.txBytes, frame2, frame1]
      _ = s.txStream ++ request ++ crcBytes (crc16 request) := (List.append_assoc _ _ _).symm
  refine ⟨t, ?_, hinputs, hbusy, hdone, herr, hend, hop, hcoll, hsent, hvalid, hpdu, hbytes, hbudget⟩
  rw [runSteps_succ step1, runSteps_succ step2, runSteps_succ step3, runSteps_succ step4, runSteps_succ step5,
    runSteps_succ step6, runSteps_succ step7, runSteps_succ step8]
  rfl

end Sys2Proof.Machine
end

section
/-! SUPPORT. The block has no fault (spec/70_reset_and_hazards.md R281): under the invariant every round answers, and the only
refusal is that of a host access outside R63. -/

namespace Sys2Proof.Machine

/-! ### Rounds answer -/

/-- A phase that belongs to the sequence of the running command ends (R187). -/
theorem phaseDone_answers_next {v : State} {p : Phase} (hp : v.phase = p) (hne : p ≠ .idle ∧ p ≠ .verify)
    (hq : SequenceOk v) : ∃ t, phaseDone p v = .next t := by
  obtain ⟨hflush, hsend, -⟩ := hq
  cases p with
  | flush =>
    obtain ho | ho := hflush hp
    exacts [⟨_, phaseDone_flush_of_flush ho⟩, ⟨_, phaseDone_flush_of_xact ho⟩]
  | send =>
    obtain ho | ho := hsend hp
    exacts [⟨_, phaseDone_send_of_send ho⟩, ⟨_, phaseDone_send_of_xact ho⟩]
  | rxHdr => exact exec_answers_next _ v
  | rxRest => exact ⟨_, rfl⟩
  | idle => exact absurd rfl hne.1
  | verify => exact absurd rfl hne.2

theorem pollRound_answers_next {c : Call} {a : Option Answer} {u : State} {onIdle : State → Result}
    (h : ∃ t, onIdle (u.call c) = .next t) : ∃ t, pollRound c a u onIdle = .next t := by
  unfold pollRound
  dsimp only
  split
  · exact ⟨_, rfl⟩
  · exact h
  · exact ⟨_, rfl⟩

theorem afterTransfer_answers_next {v : State} {p : Phase} (h : ∃ t, phaseDone p v = .next t) (complete : Bool) :
    ∃ t, afterTransfer v complete p = .next t := by
  unfold afterTransfer
  split
  · exact h
  · split <;> exact ⟨_, rfl⟩

theorem flushRound_answers_next {u : State} (hq : SequenceOk u) (hp : u.phase = .flush) (a : Option Answer) :
    ∃ t, flushRound a u = .next t := by
  unfold flushRound
  split
  · exact pollRound_answers_next (phaseDone_answers_next hp (by decide) hq)
  · dsimp only
    split
    · exact ⟨_, rfl⟩
    · split
      · exact ⟨_, rfl⟩
      · split <;> exact ⟨_, rfl⟩

theorem sendRound_answers_next {u : State} (hi : Inv u) (hp : u.phase = .send) (a : Option Answer) :
    ∃ t, sendRound a u = .next t := by
  obtain ⟨-, hq, -, ⟨-, hmax, -, hlt, -⟩, -⟩ := hi
  have hrange : u.txWritten < u.txLen ∧ u.txLen.toNat ≤ 260 := ⟨hlt hp, by omega⟩
  unfold sendRound
  split
  · exact pollRound_answers_next ⟨_, rfl⟩
  · rw [if_pos hrange]
    dsimp only
    split
    · exact ⟨_, rfl⟩
    · split
      · exact ⟨_, rfl⟩
      · refine afterTransfer_answers_next (phaseDone_answers_next ?_ (by decide) ?_) _
        exacts [hp, hq]

theorem recvRound_answers_next {u : State} (hi : Inv u) (hp : u.phase = .rxHdr ∨ u.phase = .rxRest) (a : Option Answer) :
    ∃ t, recvRound a u = .next t := by
  unfold recvRound
  split
  · exact pollRound_answers_next ⟨_, rfl⟩
  · rw [if_pos (hi.receiving_lengths hp)]
    dsimp only
    split
    · exact ⟨_, rfl⟩
    · next bytes _ =>
      split
      · exact ⟨_, rfl⟩
      · obtain ⟨-, hq, -⟩ := hi
        refine afterTransfer_answers_next (phaseDone_answers_next rfl ?_ ?_) _
        · rw [receive_phase]
          rcases hp with hp | hp <;> simp [hp]
        · rw [receive_eq]
          exact hq

/-- Under the invariant every round of a running command answers a next state. -/
theorem blockRound_answers_next {u : State} (hi : Inv u) (hb : u.busy = true) (a : Option Answer) :
    ∃ t, blockRound a u = .next t := by
  obtain hl | hl := Bool.eq_false_or_eq_true u.linkOpen
  · obtain ⟨hflush, hsend, hrecv⟩ := blockRound_of_open hl a
    obtain ⟨⟨hphase, hverify, -⟩, hq, -⟩ := id hi
    cases hp : u.phase with
    | idle => exact absurd hp (hphase.mp hb)
    | verify => exact absurd hp hverify
    | flush => rw [hflush hp]; exact flushRound_answers_next hq hp a
    | send => rw [hsend hp]; exact sendRound_answers_next hi hp a
    | rxHdr => rw [hrecv (.inl hp)]; exact recvRound_answers_next hi (.inl hp) a
    | rxRest => rw [hrecv (.inr hp)]; exact recvRound_answers_next hi (.inr hp) a
  · exact ⟨_, blockRound_of_closed hi hb hl a⟩

/-! ### Steps answer, or refuse a host access -/

/-- An access at an address of the window is the access at its offset (R64). -/
theorem step_bus_eq_host {s : State} {addr : Word} {off : BitVec 11} {x : Access} {now : Word} {rest : List Input}
    (h : s.inputs = .bus addr x now :: rest) (hw : windowOffset addr = some off) :
    step s = step (s.setInputs (.host off x now :: rest)) := by
  rw [step_bus h hw, step_host rfl]
  rfl

theorem step_answers_next {s : State} (hi : Inv s) (hadm : ∀ x rest, s.inputs = x :: rest → x.admitted) :
    ∃ t, step s = .next t := by
  by_cases hround : TakesRound s
  · obtain ⟨a, now, rest, hstep, -⟩ := step_of_takesRound hround
    rw [hstep]
    exact blockRound_answers_next (u := s.took rest now) hi hround.1 a
  · cases hin : s.inputs with
    | nil =>
      simp only [step, hin, quietStep]
      split
      · exact ⟨_, rfl⟩
      · next hr =>
        split
        · next hb => exact absurd ⟨hb, Bool.eq_false_iff.mpr hr, by simp [hin]⟩ hround
        · exact ⟨_, rfl⟩
    | cons x rest =>
      have hx := hadm x rest hin
      cases x with
      | host off x now => exact (accessesAdmittedAndRefused s off x now rest hin).2 hx
      | bus addr x now =>
        cases hw : windowOffset addr with
        | none =>
          simp only [step, hin, takeInput, hw]
          split <;> exact ⟨_, rfl⟩
        | some off =>
          rw [step_bus_eq_host hin hw]
          exact (accessesAdmittedAndRefused _ off x now rest rfl).2 (hx off hw)
      | round a now =>
        obtain hr | hr := Bool.eq_false_or_eq_true s.resetAsserted
        · simp only [step, hin, takeInput, setNow_resetAsserted, setInputs_resetAsserted, hr]
          exact ⟨_, rfl⟩
        · have hb : s.busy = false := Bool.eq_false_iff.mpr fun hb => hround ⟨hb, hr, by simp [hin, Input.isRound]⟩
          exact ⟨_, step_round_idle hb hr hin⟩
      | link isOpen =>
        simp only [step, hin, takeInput]
        split <;> exact ⟨_, rfl⟩
      | reset b =>
        rw [step_reset hin]
        split <;> exact ⟨_, rfl⟩

/-- What is not admitted is a host access, at an offset or at an address of the window, and it is refused (R63, R64). -/
theorem step_refuses {s : State} {x : Input} {rest : List Input} (hin : s.inputs = x :: rest) (hx : ¬x.admitted) :
    x.isHost = true ∧ step s = .refused .hostAccess := by
  cases x with
  | host off x now => exact ⟨rfl, (accessesAdmittedAndRefused s off x now rest hin).1 hx⟩
  | bus addr x now =>
    simp only [Input.admitted, not_forall] at hx
    obtain ⟨off, hw, hno⟩ := hx
    refine ⟨rfl, ?_⟩
    rw [step_bus_eq_host hin hw]
    exact (accessesAdmittedAndRefused _ off x now rest rfl).1 hno
  | round | link | reset => exact absurd trivial hx

/-- Settles O55: the rounds' three faults stand in states outside the invariant, and each input but a host access is taken. -/
theorem noStepFaults : Obligations.NoStepFaults :=
  fun _ hi => ⟨step_answers_next hi, fun _ _ hin hx => step_refuses hin hx⟩

end Sys2Proof.Machine
end

section
/-! SUPPORT. What a running command is protected from (spec/70_reset_and_hazards.md R270, R271), and what a reset does to it
(R260). -/

namespace Sys2Proof.Machine

/-! ### A round leaves the command's operands alone (R271) -/

/-- What no round changes: ARG, SLAVE, FLUSH_POLL_MS, the level of RESET, and TXBUF. -/
def State.held (s : State) : Word × Byte × Half × Bool × (Fin Config.aduMax → Byte) :=
  (s.arg, s.slave, s.flushPollMs, s.resetAsserted, fun i => s.tx i)

/-- Bytes stored in RXBUF leave TXBUF alone (R67, R178). -/
theorem tx_storeRx (s : State) (i : Nat) (bytes : List Byte) {k : Nat} (hk : k < Config.aduMax) :
    (s.storeRx i bytes).tx k = s.tx k :=
  byteAt_storeRx_other s i bytes (.inl (by simp only [Config.aduMax, Config.txBase, Config.rxBase] at *; omega))

theorem receive_held (s : State) (bytes : List Byte) : (s.receive bytes).held = s.held := by
  have htx : (fun i : Fin Config.aduMax => (s.receive bytes).tx i) = fun i : Fin Config.aduMax => s.tx i :=
    funext fun i => tx_storeRx s s.rxCount.toNat bytes i.isLt
  simp only [State.held, htx, receive_arg, receive_slave, receive_flushPollMs, receive_resetAsserted]

theorem enter_held (s : State) (p : Phase) : (s.enter p).held = s.held := by
  rcases Int.lt_or_le 0 s.budget.toInt with h | h
  · rw [enter_of_budget h]
    cases p <;> rfl
  · rw [enter_of_exhausted h]
    rfl

theorem verify_held (s : State) (n : Nat) : (s.verify n).held = s.held := by
  unfold State.verify
  dsimp only
  split_ifs <;> rfl

theorem Worked.held {u v : State} (hv : Worked u v) : v.held = u.held := by
  cases hv with
  | closed | called | delivered | flushed | sent => rfl
  | received => exact receive_held _ _

theorem RoundCase.held {u t : State} (h : RoundCase u t) : t.held = u.held := by
  cases h with
  | ready c => rfl
  | failed hv | succeeded hv | again hv => exact hv.held
  | toSend hv | toHeader hv | toRest hv => exact (enter_held _ _).trans hv.held
  | verified hv => exact (verify_held _ _).trans hv.held

/-- Settles O58: the idle block alone takes a host write, and a round writes none of these. -/
theorem runningCommandKeepsItsOperands : Obligations.RunningCommandKeepsItsOperands := by
  intro s t hb h he
  have hheld : t.held = s.held := by
    cases step_cases h with
    | reset hr => exact absurd (he.symm.trans hr) (by omega)
    | pass hp => rw [hp]; rfl
    | write off w tgt v now rest hidle => exact absurd (hb.symm.trans hidle) (by decide)
    | round a now rest _ h => exact (blockRound_cases h).held
  simp only [State.held, Prod.mk.injEq] at hheld
  obtain ⟨harg, hslave, hpoll, -, htx⟩ := hheld
  exact ⟨harg, hslave, hpoll, fun i hi => congrFun htx ⟨i, hi⟩⟩

/-! ### A host write is dropped while BUSY is 1 (R270, R271) -/

theorem exists_target {off : BitVec 11} {w : Width} (h : Admitted off w) : ∃ tgt, targetAt off w = some tgt :=
  Option.ne_none_iff_exists'.mp fun hnone => targetAt_eq_none_iff.mp hnone h

/-- Settles O40: the offset has a target, whatever it is, and BUSY is looked at before the target is. -/
theorem writesWhileBusyAreDropped : Obligations.WritesWhileBusyAreDropped := by
  intro s off w v now rest hb hr hadm hin
  obtain ⟨tgt, htgt⟩ := exists_target hadm
  have hbusy : (s.took rest now).busy = true := hb
  rw [step_host hin, if_neg (by simp [hr])]
  simp only [hostAccess, htgt, if_pos hbusy]
  rfl

/-! ### Reset (R260) -/

/-- The block is at its reset values, and only what the outside world drives or is given back may differ beside them. -/
def ResetTo (s t : State) : Prop :=
  t = { s.resetBlock with
    linkOpen := t.linkOpen, now := t.now, resetAsserted := t.resetAsserted, inputs := t.inputs, hostData := t.hostData }

theorem ResetTo.effect {s t : State} (h : ResetTo s t) :
    AtResetValues t ∧ t.calls = s.calls ∧ t.txStream = s.txStream := by
  rw [h]
  exact ⟨atResetValues_resetBlock s, rfl, rfl⟩

/-- While RESET is asserted an access finds the reset values and leaves them (log entry 14). -/
theorem resetTo_of_hostAccessInReset {s t : State} {off : BitVec 11} {x : Access} {now : Word} {rest : List Input}
    (h : hostAccessInReset off x (s.took rest now) = .next t) : ResetTo s t := by
  cases x with
  | read w | write w v =>
    simp only [hostAccessInReset] at h
    split at h <;> cases h
    rfl

/-- Every step while RESET is asserted sets the reset values, whatever its input is. -/
theorem resetTo_of_step {s t : State} (hr : s.resetAsserted = true) (h : step s = .next t) : ResetTo s t := by
  cases hin : s.inputs with
  | nil =>
    simp only [step, hin, quietStep, hr, if_true] at h
    cases h
    rfl
  | cons x rest =>
    cases x with
    | host off x now =>
      rw [step_host hin, if_pos hr] at h
      exact resetTo_of_hostAccessInReset h
    | bus addr x now =>
      cases hw : windowOffset addr with
      | none =>
        simp only [step, hin, takeInput, hw, setNow_resetAsserted, setInputs_resetAsserted, hr, if_true] at h
        cases h
        rfl
      | some off =>
        rw [step_bus hin hw, if_pos hr] at h
        exact resetTo_of_hostAccessInReset h
    | round a now =>
      simp only [step, hin, takeInput, setNow_resetAsserted, setInputs_resetAsserted, hr, if_true] at h
      cases h
      rfl
    | link isOpen =>
      simp only [step, hin, takeInput, setInputs_resetAsserted, hr, if_true] at h
      cases h
      rfl
    | reset b =>
      rw [step_reset hin, if_pos (by simp [hr])] at h
      cases h
      rfl

/-- Settles O50: a RESET input resets unless RESET is released and stays so, and a step with RESET asserted always does. -/
theorem resetSetsEveryValue : Obligations.ResetSetsEveryValue := by
  refine ⟨fun s b rest hb hin => ?_, fun s rest hr hin => ?_, fun s t hr h => (resetTo_of_step hr h).effect⟩
  · refine ⟨_, (step_reset hin).trans (if_pos (by simpa using hb)), ?_, rfl, rfl, rfl, rfl, rfl⟩
    exact atResetValues_resetBlock (s.setInputs rest)
  · rw [step_reset hin, if_neg (by simp [hr])]
    rfl

end Sys2Proof.Machine
end

section
/-! SUPPORT. A running command ends when time advances (spec/70_reset_and_hazards.md R277): every round that leaves it running
charges the budget, and none that finds the budget spent leaves it running. -/

namespace Sys2Proof.Machine

/-! ### After a transfer no transfer follows at once (R51, R177 to R179) -/

theorem enter_sub (s : State) (p : Phase) : (s.enter p).sub = .poll := by
  rcases Int.lt_or_le 0 s.budget.toInt with h | h
  · rw [enter_of_budget h]
    cases p <;> rfl
  · rw [enter_of_exhausted h]
    rfl

theorem phaseDone_sub {p : Phase} {s t : State} (h : phaseDone p s = .next t) : t.sub = .poll := by
  cases p with
  | flush | send =>
    simp only [phaseDone] at h
    split at h
    · cases h; rfl
    · split at h <;> cases h
      exact enter_sub _ _
  | rxHdr =>
    rw [phaseDone, exec_decodeHeader] at h
    cases h
    cases findPduLength (s.rx 1) (s.rx 2) with
    | ok l => exact enter_sub _ _
    | unsupported | outOfRange => rfl
  | rxRest =>
    cases h
    obtain ⟨-, -, -, hsub, -⟩ := verify_frame s s.rxNeed.toNat
    exact hsub
  | idle | verify => cases h

theorem afterTransfer_sub {v t : State} {complete : Bool} {p : Phase} (h : afterTransfer v complete p = .next t) :
    t.sub = .poll := by
  unfold afterTransfer at h
  split at h
  · exact phaseDone_sub h
  · split at h <;> cases h <;> rfl

section
variable {a : Option Answer} {u t : State}

theorem flushRound_sub (hx : u.sub = .xfer) (h : flushRound a u = .next t) : t.sub = .poll := by
  simp only [flushRound, hx] at h
  split at h
  · cases h; rfl
  · split at h
    · cases h; rfl
    · split at h <;> cases h <;> rfl

theorem sendRound_sub (hx : u.sub = .xfer) (h : sendRound a u = .next t) : t.sub = .poll := by
  simp only [sendRound, hx] at h
  split at h
  · split at h
    · cases h; rfl
    · split at h
      · cases h; rfl
      · exact afterTransfer_sub h
  · cases h

theorem recvRound_sub (hx : u.sub = .xfer) (h : recvRound a u = .next t) : t.sub = .poll := by
  simp only [recvRound, hx] at h
  split at h
  · split at h
    · cases h; rfl
    · split at h
      · cases h; rfl
      · exact afterTransfer_sub h
  · cases h

/-- A round that makes a transfer leaves SUB at POLL, whether or not the command goes on. -/
theorem blockRound_sub (hl : u.linkOpen = true) (hx : u.sub = .xfer) (h : blockRound a u = .next t) : t.sub = .poll := by
  obtain ⟨hflush, hsend, hrecv⟩ := blockRound_of_open hl a
  cases hp : u.phase with
  | flush => exact flushRound_sub hx (hflush hp ▸ h)
  | send => exact sendRound_sub hx (hsend hp ▸ h)
  | rxHdr => exact recvRound_sub hx (hrecv (.inl hp) ▸ h)
  | rxRest => exact recvRound_sub hx (hrecv (.inr hp) ▸ h)
  | idle | verify => simp [blockRound, hp] at h

end

/-! ### The steps of a running command -/

section
variable {s : State} {rest : List Input}

/-- A host access passes a running command by: a read, or a write that is dropped (R65, R271). -/
theorem step_host_passes {off : BitVec 11} {x : Access} {now : Word} (hb : s.busy = true) (hr : s.resetAsserted = false)
    (hx : Admitted off x.width) (hin : s.inputs = .host off x now :: rest) :
    ∃ t, step s = .next t ∧ Passed s t ∧ t.inputs = rest := by
  cases x with
  | read w =>
    obtain ⟨tgt, htgt⟩ := exists_target hx
    exact ⟨_, step_read hr hin htgt, rfl, rfl⟩
  | write w v => exact ⟨_, writesWhileBusyAreDropped s off w v now rest hb hr hx hin, rfl, rfl⟩

/-- An input that is neither a round nor a RESET passes a running command by. -/
theorem step_passes {x : Input} (hb : s.busy = true) (hr : s.resetAsserted = false) (hin : s.inputs = x :: rest)
    (hadm : x.admitted) (hreset : x.isReset = false) (hround : x.isRound = false) :
    ∃ t, step s = .next t ∧ Passed s t ∧ t.inputs = rest := by
  cases x with
  | host off x now => exact step_host_passes hb hr hadm hin
  | bus addr x now =>
    cases hw : windowOffset addr with
    | none => exact ⟨_, step_bus_outside hr hin hw, rfl, rfl⟩
    | some off =>
      rw [step_bus_eq_host hin hw]
      exact step_host_passes (s := s.setInputs (.host off x now :: rest)) hb hr (hadm off hw) rfl
  | link isOpen => exact ⟨_, step_link hr hin, rfl, rfl⟩
  | round => cases hround
  | reset => cases hreset

/-- A round that leaves the command running charged a budget that was not spent: after a poll the budget was positive, and
after a transfer the next poll needs it to be (R151, R159). -/
theorem step_round_goesOn {t : State} {a : Answer} {now : Word} (hi : Inv s) (hb : s.busy = true)
    (hr : s.resetAsserted = false) (hin : s.inputs = .round a now :: rest) (h : step s = .next t) (ht : t.busy = true) :
    t.resetAsserted = false ∧ t.inputs = rest ∧ t.mark = now ∧ t.budget.toInt = s.budgetAfter now ∧ 0 < s.budget.toInt := by
  have hround : blockRound (some a) (s.took rest now) = .next t := step_round hb hr hin ▸ h
  have hl : s.linkOpen = true := by
    by_contra hl
    rw [step_round_of_closed hi hb hr (Bool.eq_false_iff.mpr hl) hin] at h
    cases h
    cases ht
  obtain ⟨-, -, hmark, hbudget, htook, hpoll⟩ := (everyRoundIsOneCallAndOneCharge s t hi h).1
    ⟨hb, hr, hl, by simp [hin, Input.isRound]⟩
  obtain ⟨hnow, hinputs⟩ := htook a now rest hin
  have hheld := (blockRound_cases hround).held
  simp only [State.held, Prod.mk.injEq] at hheld
  obtain ⟨-, -, -, hreset, -⟩ := hheld
  refine ⟨hreset.trans hr, hinputs, hmark.trans hnow, hnow ▸ hbudget, ?_⟩
  cases hx : s.sub with
  | poll => exact hpoll hx
  | xfer =>
    obtain ⟨-, -, -, -, -, -, -, hpositive, -⟩ := stepKeepsTheInvariant s t hi h
    exact (hpositive ⟨ht, blockRound_sub (u := s.took rest now) hl hx hround⟩).trans_le (hbudget.trans_le (budgetAfter_le _ _))

end

/-! ### The run -/

/-- A command is running, and these inputs come next, each of them admitted and none a RESET. -/
def Fed (l : List Input) (s : State) : Prop :=
  Inv s ∧ s.busy = true ∧ s.resetAsserted = false ∧ (∃ rest, s.inputs = l ++ rest) ∧
    ∀ x ∈ l, x.admitted ∧ x.isReset = false

/-- The rounds among these inputs charge the whole budget in sum. -/
def Spends (l : List Input) (s : State) : Prop := s.budget.toInt ≤ chargedTime s.mark l

/-- The command has ended. -/
def Over (t : State) : Prop := t.busy = false ∧ t.done = true

/-- The command ends within a number of steps. -/
def EndsWithin (n : Nat) (s : State) : Prop := ∃ k t, k ≤ n ∧ runSteps k s = .next t ∧ Over t

theorem endsWithin_succ {n : Nat} {s t : State} (h : step s = .next t) (ht : Over t ∨ EndsWithin n t) :
    EndsWithin (n + 1) s := by
  obtain ht | ⟨k, u, hk, hrun, hu⟩ := ht
  · exact ⟨1, t, by omega, runSteps_succ h, ht⟩
  · exact ⟨k + 1, u, by omega, (runSteps_succ h).trans hrun, hu⟩

theorem chargedTime_cons_of_not_round {x : Input} (hx : x.isRound = false) (m : Word) (l : List Input) :
    chargedTime m (x :: l) = chargedTime m l := by
  cases x with
  | round => cases hx
  | host | bus | link | reset => rfl

/-- One charge takes its time off what the rounds to come must charge (R151, R152). -/
theorem spends_of_charge {s t : State} {a : Answer} {now : Word} {l : List Input} (h : Spends (.round a now :: l) s)
    (hmark : t.mark = now) (hbudget : t.budget.toInt = s.budgetAfter now) : Spends l t := by
  have hsum : (chargedTime s.mark (.round a now :: l) : Int) = (now - s.mark).toNat + chargedTime now l := Nat.cast_add _ _
  unfold Spends at h ⊢
  rw [hsum, toNat_sub_eq_emod] at h
  rw [hmark, hbudget, State.budgetAfter]
  omega

/-- What the step from `s` to `t` that takes `x` leaves: the command has ended, or the rest of its inputs comes next. A round that
does not end it found budget left, and what the inputs charge is charged by them. -/
def Taken (x : Input) (l : List Input) (s t : State) : Prop :=
  Over t ∨ Fed l t ∧ (x.isRound = true → 0 < s.budget.toInt) ∧ ∀ l', Spends (x :: l') s → Spends l' t

section
variable {s : State} {l : List Input}

theorem Fed.step_of_round {a : Answer} {now : Word} (h : Fed (.round a now :: l) s) :
    ∃ t, step s = .next t ∧ Taken (.round a now) l s t := by
  obtain ⟨hi, hb, hr, ⟨rest, hin⟩, hall⟩ := h
  obtain ⟨-, htail⟩ := List.forall_mem_cons.mp hall
  have hin : s.inputs = .round a now :: (l ++ rest) := hin
  obtain ⟨t, ht⟩ := step_answers_next hi (by simp [hin, Input.admitted])
  refine ⟨t, ht, ?_⟩
  obtain hbt | hbt := Bool.eq_false_or_eq_true t.busy
  · obtain ⟨hrt, hint, hmark, hbudget, hpos⟩ := step_round_goesOn hi hb hr hin ht hbt
    exact .inr ⟨⟨stepKeepsTheInvariant s t hi ht, hbt, hrt, ⟨rest, hint⟩, htail⟩, fun _ => hpos,
      fun _ hl' => spends_of_charge hl' hmark hbudget⟩
  · have hround : blockRound (some a) (s.took (l ++ rest) now) = .next t := step_round hb hr hin ▸ ht
    obtain ⟨⟨hdone, -⟩, -⟩ := (blockRound_cases hround).ended hi hb hbt
    exact .inl ⟨hbt, hdone⟩

theorem Fed.step_of_other {x : Input} (h : Fed (x :: l) s) (hround : x.isRound = false) :
    ∃ t, step s = .next t ∧ Taken x l s t := by
  obtain ⟨hi, hb, hr, ⟨rest, hin⟩, hall⟩ := h
  obtain ⟨⟨hadm, hreset⟩, htail⟩ := List.forall_mem_cons.mp hall
  obtain ⟨t, ht, hpassed, hint⟩ := step_passes hb hr hin hadm hreset hround
  have hkept : t.busy = s.busy ∧ t.resetAsserted = s.resetAsserted ∧ t.mark = s.mark ∧ t.budget = s.budget := by
    rw [hpassed]
    exact ⟨rfl, rfl, rfl, rfl⟩
  obtain ⟨hbt, hrt, hmark, hbudget⟩ := hkept
  refine ⟨t, ht, .inr ⟨⟨hi.passed hpassed, hbt.trans hb, hrt.trans hr, ⟨rest, hint⟩, htail⟩, by simp [hround],
    fun l' hl' => ?_⟩⟩
  rw [Spends, chargedTime_cons_of_not_round hround] at hl'
  rwa [Spends, hmark, hbudget]

/-- The next input of a running command is taken. -/
theorem Fed.step {x : Input} (h : Fed (x :: l) s) : ∃ t, step s = .next t ∧ Taken x l s t := by
  cases x with
  | round => exact h.step_of_round
  | host | bus | link | reset => exact h.step_of_other rfl

end

/-- Once the budget is spent, the next round ends the command. -/
theorem endsWithin_of_spent {l : List Input} {s : State} (h : Fed l s) (hs : Spends [] s)
    (hround : l.any Input.isRound = true) : EndsWithin l.length s := by
  induction l generalizing s with
  | nil => cases hround
  | cons x l ih =>
    obtain ⟨t, ht, hover | ⟨hfed, hpos, hspends⟩⟩ := h.step
    · exact endsWithin_succ ht (.inl hover)
    · have hx : x.isRound = false := Bool.eq_false_iff.mpr fun hx => (hpos hx).not_ge hs
      rw [List.any_cons, hx, Bool.false_or] at hround
      refine endsWithin_succ ht (.inr (ih hfed (hspends [] ?_) hround))
      rw [Spends, chargedTime_cons_of_not_round hx]
      exact hs

/-- Once its rounds have charged the budget, the command has ended or the next round ends it. -/
theorem endsWithin_of_spends {before after : List Input} {s : State} (h : Fed (before ++ after) s) (hs : Spends before s)
    (hround : after.any Input.isRound = true) : EndsWithin (before ++ after).length s := by
  induction before generalizing s with
  | nil => exact endsWithin_of_spent h hs hround
  | cons x before ih =>
    obtain ⟨t, ht, hover | ⟨hfed, -, hspends⟩⟩ := h.step
    · exact endsWithin_succ ht (.inl hover)
    · exact endsWithin_succ ht (.inr (ih hfed (hspends before hs)))

/-- Settles O59: the charged sum covers the budget at every step until the command ends. -/
theorem commandsEndWhenTimeAdvances : Obligations.CommandsEndWhenTimeAdvances :=
  fun _ _ _ rest hi hb hr hin hall hs hround => endsWithin_of_spends ⟨hi, hb, hr, ⟨rest, hin⟩, hall⟩ hs hround

end Sys2Proof.Machine
end
